-- ==== Sys2Proof/Word.lean ====
section
/-! DEFINITION. Word.lean: the data types a command of the G1 core handles. Command words, window words and bytes are
bit vectors, because software sees their bits; field elements are the canonical integers of spec/10_state.md R52 to R57
(`a register's architectural value is the canonical integer`, R56), so they are natural numbers, kept below their modulus by an
invariant (Safety.lean), and points are structures of them. -/

namespace Sys2Proof

/-- A 32-bit command word or window word (30_encoding.md R170, 20_memory.md R122). -/
abbrev Word := BitVec 32

/-- One byte of BUF (10_state.md R60). -/
abbrev Byte := BitVec 8

/-- A byte offset into the 512-byte register window (20_memory.md R120). -/
abbrev Offset := BitVec 9

/-- An Fp2 value `(c0, c1)`, that is `c0 + c1·u` with `u² = -1` (10_state.md R53). -/
structure Fp2 where
  c0 : Nat
  c1 : Nat
  deriving DecidableEq, Repr

/-- An affine value `(x, y, inf)` (10_state.md R55). -/
structure Affine where
  x : Nat
  y : Nat
  inf : Bool
  deriving DecidableEq, Repr

/-- A projective value `(X, Y, Z)` in homogeneous coordinates (10_state.md R57, 90_conflicts.md C1). -/
structure Proj where
  X : Nat
  Y : Nat
  Z : Nat
  deriving DecidableEq, Repr

/-- The canonical affine identity `(0, 1, true)` (10_state.md R55). -/
def Affine.identity : Affine := ⟨0, 1, true⟩

/-- The canonical projective identity `(0, 1, 0)` (10_state.md R57). -/
def Proj.identity : Proj := ⟨0, 1, 0⟩

/-- The five typed register files (00_scope.md R26). -/
inductive RegFile where
  | F | E | S | A | P
  deriving DecidableEq, Repr

/-- An index into `F[0..15]` (30_encoding.md R174). -/
abbrev FReg := Fin 16

/-- An index into `E[0..7]` (30_encoding.md R174). -/
abbrev EReg := Fin 8

/-- An index into `S[0..7]` (30_encoding.md R174). -/
abbrev SReg := Fin 8

/-- An index into `A[0..7]` (30_encoding.md R174). -/
abbrev AReg := Fin 8

/-- An index into `P[0..7]` (30_encoding.md R174). -/
abbrev PReg := Fin 8

/-- The 4-bit count operand `n` of formats DABN and DAN (30_encoding.md R175). -/
abbrev Count := Fin 16

end Sys2Proof
end

