-- ==== Sys2Proof/Config.lean ====
section
/-! DEFINITION. Config.lean: the implementation parameters of spec/00_scope.md section 4 (R8 to R16), the Montgomery constants of
40_fp.md R232, R235 and 42_scalar.md R351, R352, the identification constants of 10_state.md R70, and the two free values of
the model, which have no body: what a BUF read returns while BUSY (20_memory.md R127), and the window's base address (20_memory.md
R120). The latency of a command (R16) is not here: it is plain data in State (`turns`), see notes/assumptions/1.md. -/

namespace Sys2Proof.Config

/-- The base-field modulus p (00_scope.md R8). -/
def p : Nat :=
  0x1a0111ea397fe69a4b1ba7b6434bacd764774b84f38512bf6730d2a0f6b0f6241eabfffeb153ffffb9feffffffffaaab

/-- The scalar-field modulus r, the group order (00_scope.md R9). -/
def r : Nat := 0x73eda753299d7d483339d80809a1d80553bda402fffe5bfeffffffff00000001

/-- The magnitude |x| of the BLS parameter; x itself is negative (00_scope.md R10). -/
def xAbs : Nat := 0xd201000000010000

/-- The curve constant b of `y² = x³ + b` (00_scope.md R11). -/
def b : Nat := 4

/-- `b3 = 3·b` (00_scope.md R11). -/
def b3 : Nat := 12

/-- The generator's x coordinate GX (00_scope.md R12). -/
def gx : Nat :=
  0x17f1d3a73197d7942695638c4fa9ac0fc3688c4f9774b905a14e3a3f171bac586c55e83ff97a1aeffb3af00adb22c6bb

/-- The generator's y coordinate GY (00_scope.md R12). -/
def gy : Nat :=
  0x08b3f481e3aaa0f1a09e30ed741d8ae4fcf5e095d5d00af600db18cb2c04b3edd03cc744a2888ae40caa232946c5e7e1

/-- The endomorphism constant BETA, a cube root of unity in Fp (00_scope.md R13). -/
def beta : Nat := 0x5f19672fdf76ce51ba69c6076a0f77eaddb3a93be6f89688de17d813620a00022e01fffffffefffe

/-- `INV_p = -p^-1 mod 2^64` (40_fp.md R232). -/
def invP : Nat := 0x89f3fffcfffcfffd

/-- `INV_r = -r^-1 mod 2^64` (42_scalar.md R351). -/
def invR : Nat := 0xfffffffeffffffff

/-- `R_p mod p` as limbs from least significant (40_fp.md R235). -/
def radixP : List Nat :=
  [0x760900000002fffd, 0xebf4000bc40c0002, 0x5f48985753c758ba, 0x77ce585370525745, 0x5c071a97a256ec6d, 0x15f65ec3fa80e493]

/-- `R_p^2 mod p` as limbs from least significant (40_fp.md R235). -/
def radixP2 : List Nat :=
  [0xf4df1f341c341746, 0x0a76e6a609d104f1, 0x8de5476c4c95b6d5, 0x67eb88a9939d83c0, 0x9a793e85b519952d, 0x11988fe592cae3aa]

/-- `R_p^3 mod p` as limbs from least significant (40_fp.md R235). -/
def radixP3 : List Nat :=
  [0xed48ac6bd94ca1e0, 0x315f831e03a7adf8, 0x9a53352a615e29dd, 0x34c04e5e921e1761, 0x2512d43565724728, 0x0aa6346091755d4d]

/-- `2^256 mod r` as limbs from least significant (42_scalar.md R352). -/
def radixR : List Nat := [0x00000001fffffffe, 0x5884b7fa00034802, 0x998c4fefecbc4ff5, 0x1824b159acc5056f]

/-- `2^512 mod r` as limbs from least significant (42_scalar.md R352). -/
def radixR2 : List Nat := [0xc999e990f3f29c6d, 0x2b6cedcb87925c23, 0x05d314967254398f, 0x0748d9d99f59ff11]

/-- `2^768 mod r` as limbs from least significant (42_scalar.md R352). -/
def radixR3 : List Nat := [0xc62c1807439b73af, 0x1b3e0d188cf06990, 0x73d13c71c7b5f418, 0x6e2a5bb9c8db33e9]

/-- The ID register's constant, ASCII "G1C1" (10_state.md R70). -/
def idWord : Word := 0x47314331#32

/-- The VERSION register's constant: command set version 1 (10_state.md R70). -/
def versionWord : Word := 0x00000001#32

/-- FREE VALUE. What the k-th host read of a BUF word while BUSY returns: `an unspecified 32-bit value, which a model takes as a
free draw` (20_memory.md R127; 93_implementation_defined.md U1). No body: nothing can be proved of it. See notes/assumptions/2.md. -/
opaque busyBufRead : Nat → Word

/-- FREE VALUE. The platform parameter `G1CORE_BASE`, the window's base address in the host's physical address space, left
OPEN (20_memory.md R120; 93_implementation_defined.md U3). No body. See notes/assumptions/3.md. -/
opaque g1coreBase : Nat

end Sys2Proof.Config
end

