-- ==== Sys2Proof/Syntax.lean ====
section
/-! DEFINITION. Syntax.lean: the command set as abstract syntax, one constructor for each of the 92 rows of the opcode map
(30_encoding.md R178). The operands come in the order d, a, b, c of R187, skipping the fields the format does not use, and each
register field is an index of the file its row names, so an index out of its file (R174) cannot be written down. -/

namespace Sys2Proof

/-- A command of the G1 core. -/
inductive Instr where
  /-- `NOP`, op 0x00, format N (45_system.md R540). -/
  | nop
  /-- `FP.ZERO`, op 0x01, format D (40_fp.md R240). -/
  | fpZero (d : FReg)
  /-- `FP.ONE`, op 0x02, format D (40_fp.md R241). -/
  | fpOne (d : FReg)
  /-- `FP.MOV`, op 0x03, format DA (40_fp.md R242). -/
  | fpMov (d : FReg) (a : FReg)
  /-- `FP.ISZERO`, op 0x04, format A1 (40_fp.md R243). -/
  | fpIszero (a : FReg)
  /-- `FP.EQ`, op 0x05, format A2 (40_fp.md R244). -/
  | fpEq (a : FReg) (b : FReg)
  /-- `FP.ADD`, op 0x06, format DAB (40_fp.md R245). -/
  | fpAdd (d : FReg) (a : FReg) (b : FReg)
  /-- `FP.SUB`, op 0x07, format DAB (40_fp.md R246). -/
  | fpSub (d : FReg) (a : FReg) (b : FReg)
  /-- `FP.NEG`, op 0x08, format DA (40_fp.md R247). -/
  | fpNeg (d : FReg) (a : FReg)
  /-- `FP.MUL`, op 0x09, format DAB (40_fp.md R248). -/
  | fpMul (d : FReg) (a : FReg) (b : FReg)
  /-- `FP.SQR`, op 0x0A, format DA (40_fp.md R249). -/
  | fpSqr (d : FReg) (a : FReg)
  /-- `FP.INV`, op 0x0B, format DA (40_fp.md R250). -/
  | fpInv (d : FReg) (a : FReg)
  /-- `FP.SQRT`, op 0x0C, format DA (40_fp.md R251). -/
  | fpSqrt (d : FReg) (a : FReg)
  /-- `FP.LEXL`, op 0x0D, format A1 (40_fp.md R252). -/
  | fpLexl (a : FReg)
  /-- `FP.TOBYTES`, op 0x0E, format A1 (40_fp.md R253). -/
  | fpTobytes (a : FReg)
  /-- `FP.FROMBYTES`, op 0x0F, format D (40_fp.md R254). -/
  | fpFrombytes (d : FReg)
  /-- `FP.SOP`, op 0x10, format DABN (40_fp.md R255). -/
  | fpSop (d : FReg) (a : FReg) (b : FReg) (n : Count)
  /-- `FP2.ZERO`, op 0x20, format D (41_fp2.md R301). -/
  | fp2Zero (d : EReg)
  /-- `FP2.ONE`, op 0x21, format D (41_fp2.md R302). -/
  | fp2One (d : EReg)
  /-- `FP2.MOV`, op 0x22, format DA (41_fp2.md R303). -/
  | fp2Mov (d : EReg) (a : EReg)
  /-- `FP2.PACK`, op 0x23, format DAB (41_fp2.md R304). -/
  | fp2Pack (d : EReg) (a : FReg) (b : FReg)
  /-- `FP2.C0`, op 0x24, format DA (41_fp2.md R305). -/
  | fp2C0 (d : FReg) (a : EReg)
  /-- `FP2.C1`, op 0x25, format DA (41_fp2.md R306). -/
  | fp2C1 (d : FReg) (a : EReg)
  /-- `FP2.ISZERO`, op 0x26, format A1 (41_fp2.md R307). -/
  | fp2Iszero (a : EReg)
  /-- `FP2.EQ`, op 0x27, format A2 (41_fp2.md R308). -/
  | fp2Eq (a : EReg) (b : EReg)
  /-- `FP2.ADD`, op 0x28, format DAB (41_fp2.md R309). -/
  | fp2Add (d : EReg) (a : EReg) (b : EReg)
  /-- `FP2.SUB`, op 0x29, format DAB (41_fp2.md R310). -/
  | fp2Sub (d : EReg) (a : EReg) (b : EReg)
  /-- `FP2.NEG`, op 0x2A, format DA (41_fp2.md R311). -/
  | fp2Neg (d : EReg) (a : EReg)
  /-- `FP2.MUL`, op 0x2B, format DAB (41_fp2.md R312). -/
  | fp2Mul (d : EReg) (a : EReg) (b : EReg)
  /-- `FP2.SQR`, op 0x2C, format DA (41_fp2.md R313). -/
  | fp2Sqr (d : EReg) (a : EReg)
  /-- `FP2.CONJ`, op 0x2D, format DA (41_fp2.md R314). -/
  | fp2Conj (d : EReg) (a : EReg)
  /-- `FP2.FROB`, op 0x2E, format DA (41_fp2.md R315). -/
  | fp2Frob (d : EReg) (a : EReg)
  /-- `FP2.MULNR`, op 0x2F, format DA (41_fp2.md R316). -/
  | fp2Mulnr (d : EReg) (a : EReg)
  /-- `FP2.INV`, op 0x30, format DA (41_fp2.md R317). -/
  | fp2Inv (d : EReg) (a : EReg)
  /-- `FP2.SQRT`, op 0x31, format DA (41_fp2.md R318). -/
  | fp2Sqrt (d : EReg) (a : EReg)
  /-- `FP2.POW`, op 0x32, format DAB (41_fp2.md R319). -/
  | fp2Pow (d : EReg) (a : EReg) (b : FReg)
  /-- `SC.ZERO`, op 0x40, format D (42_scalar.md R353). -/
  | scZero (d : SReg)
  /-- `SC.ONE`, op 0x41, format D (42_scalar.md R354). -/
  | scOne (d : SReg)
  /-- `SC.MOV`, op 0x42, format DA (42_scalar.md R355). -/
  | scMov (d : SReg) (a : SReg)
  /-- `SC.ISZERO`, op 0x43, format A1 (42_scalar.md R356). -/
  | scIszero (a : SReg)
  /-- `SC.EQ`, op 0x44, format A2 (42_scalar.md R357). -/
  | scEq (a : SReg) (b : SReg)
  /-- `SC.ADD`, op 0x45, format DAB (42_scalar.md R358). -/
  | scAdd (d : SReg) (a : SReg) (b : SReg)
  /-- `SC.SUB`, op 0x46, format DAB (42_scalar.md R359). -/
  | scSub (d : SReg) (a : SReg) (b : SReg)
  /-- `SC.NEG`, op 0x47, format DA (42_scalar.md R360). -/
  | scNeg (d : SReg) (a : SReg)
  /-- `SC.MUL`, op 0x48, format DAB (42_scalar.md R361). -/
  | scMul (d : SReg) (a : SReg) (b : SReg)
  /-- `SC.SQR`, op 0x49, format DA (42_scalar.md R362). -/
  | scSqr (d : SReg) (a : SReg)
  /-- `SC.INV`, op 0x4A, format DA (42_scalar.md R363). -/
  | scInv (d : SReg) (a : SReg)
  /-- `SC.SQRT`, op 0x4B, format DA (42_scalar.md R364). -/
  | scSqrt (d : SReg) (a : SReg)
  /-- `SC.POW`, op 0x4C, format DAB (42_scalar.md R365). -/
  | scPow (d : SReg) (a : SReg) (b : SReg)
  /-- `SC.TOBYTES`, op 0x4D, format A1 (42_scalar.md R366). -/
  | scTobytes (a : SReg)
  /-- `SC.FROMBYTES`, op 0x4E, format D (42_scalar.md R367). -/
  | scFrombytes (d : SReg)
  /-- `SC.FROMWIDE`, op 0x4F, format D (42_scalar.md R368). -/
  | scFromwide (d : SReg)
  /-- `PA.IDENTITY`, op 0x60, format D (43_affine.md R403). -/
  | paIdentity (d : AReg)
  /-- `PA.GEN`, op 0x61, format D (43_affine.md R404). -/
  | paGen (d : AReg)
  /-- `PA.MOV`, op 0x62, format DA (43_affine.md R405). -/
  | paMov (d : AReg) (a : AReg)
  /-- `PA.SET`, op 0x63, format DAB (43_affine.md R406). -/
  | paSet (d : AReg) (a : FReg) (b : FReg)
  /-- `PA.GETX`, op 0x64, format DA (43_affine.md R407). -/
  | paGetx (d : FReg) (a : AReg)
  /-- `PA.GETY`, op 0x65, format DA (43_affine.md R408). -/
  | paGety (d : FReg) (a : AReg)
  /-- `PA.ISID`, op 0x66, format A1 (43_affine.md R409). -/
  | paIsid (a : AReg)
  /-- `PA.ONCURVE`, op 0x67, format A1 (43_affine.md R410). -/
  | paOncurve (a : AReg)
  /-- `PA.TORSIONFREE`, op 0x68, format A1 (43_affine.md R412). -/
  | paTorsionfree (a : AReg)
  /-- `PA.EQ`, op 0x69, format A2 (43_affine.md R413). -/
  | paEq (a : AReg) (b : AReg)
  /-- `PA.NEG`, op 0x6A, format DA (43_affine.md R414). -/
  | paNeg (d : AReg) (a : AReg)
  /-- `PA.ENDO`, op 0x6B, format DA (43_affine.md R411). -/
  | paEndo (d : AReg) (a : AReg)
  /-- `PA.FROMPROJ`, op 0x6C, format DA (43_affine.md R415). -/
  | paFromproj (d : AReg) (a : PReg)
  /-- `PA.ADD`, op 0x6D, format DAB (43_affine.md R416). -/
  | paAdd (d : PReg) (a : AReg) (b : AReg)
  /-- `PA.MUL`, op 0x6E, format DAB (43_affine.md R417). -/
  | paMul (d : PReg) (a : AReg) (b : SReg)
  /-- `PA.TOCOMP`, op 0x6F, format A1 (43_affine.md R418). -/
  | paTocomp (a : AReg)
  /-- `PA.TOUNCOMP`, op 0x70, format A1 (43_affine.md R419). -/
  | paTouncomp (a : AReg)
  /-- `PA.FROMCOMP`, op 0x71, format D (43_affine.md R422). -/
  | paFromcomp (d : AReg)
  /-- `PA.FROMCOMPU`, op 0x72, format D (43_affine.md R421). -/
  | paFromcompu (d : AReg)
  /-- `PA.FROMUNCOMP`, op 0x73, format D (43_affine.md R425). -/
  | paFromuncomp (d : AReg)
  /-- `PA.FROMUNCOMPU`, op 0x74, format D (43_affine.md R424). -/
  | paFromuncompu (d : AReg)
  /-- `PP.IDENTITY`, op 0x80, format D (44_projective.md R483). -/
  | ppIdentity (d : PReg)
  /-- `PP.GEN`, op 0x81, format D (44_projective.md R484). -/
  | ppGen (d : PReg)
  /-- `PP.MOV`, op 0x82, format DA (44_projective.md R485). -/
  | ppMov (d : PReg) (a : PReg)
  /-- `PP.SET`, op 0x83, format DABC (44_projective.md R486). -/
  | ppSet (d : PReg) (a : FReg) (b : FReg) (c : FReg)
  /-- `PP.GETX`, op 0x84, format DA (44_projective.md R487). -/
  | ppGetx (d : FReg) (a : PReg)
  /-- `PP.GETY`, op 0x85, format DA (44_projective.md R488). -/
  | ppGety (d : FReg) (a : PReg)
  /-- `PP.GETZ`, op 0x86, format DA (44_projective.md R489). -/
  | ppGetz (d : FReg) (a : PReg)
  /-- `PP.FROMAFF`, op 0x87, format DA (44_projective.md R490). -/
  | ppFromaff (d : PReg) (a : AReg)
  /-- `PP.ISID`, op 0x88, format A1 (44_projective.md R491). -/
  | ppIsid (a : PReg)
  /-- `PP.ONCURVE`, op 0x89, format A1 (44_projective.md R492). -/
  | ppOncurve (a : PReg)
  /-- `PP.EQ`, op 0x8A, format A2 (44_projective.md R493). -/
  | ppEq (a : PReg) (b : PReg)
  /-- `PP.NEG`, op 0x8B, format DA (44_projective.md R494). -/
  | ppNeg (d : PReg) (a : PReg)
  /-- `PP.DBL`, op 0x8C, format DA (44_projective.md R495). -/
  | ppDbl (d : PReg) (a : PReg)
  /-- `PP.ADD`, op 0x8D, format DAB (44_projective.md R496). -/
  | ppAdd (d : PReg) (a : PReg) (b : PReg)
  /-- `PP.SUB`, op 0x8E, format DAB (44_projective.md R497). -/
  | ppSub (d : PReg) (a : PReg) (b : PReg)
  /-- `PP.ADDM`, op 0x8F, format DAB (44_projective.md R498). -/
  | ppAddm (d : PReg) (a : PReg) (b : AReg)
  /-- `PP.MUL`, op 0x90, format DAB (44_projective.md R499). -/
  | ppMul (d : PReg) (a : PReg) (b : SReg)
  /-- `PP.CLEARCOF`, op 0x91, format DA (44_projective.md R500). -/
  | ppClearcof (d : PReg) (a : PReg)
  /-- `PP.BATCHNORM`, op 0x92, format DAN (44_projective.md R501). -/
  | ppBatchnorm (d : AReg) (a : PReg) (n : Count)
  deriving DecidableEq, Repr

end Sys2Proof
end

