-- ==== Sys2Proof/WellFormed.lean ====
section
/-! DEFINITION. WellFormed.lean: which terms of Instr are commands of the core. Register indices are bounded by their types
(30_encoding.md R174), so what is left to check is the count operand of the two batch commands (R175). -/

namespace Sys2Proof

/-- The count check of `FP.SOP`: `1 ≤ n`, `a + n ≤ 16`, `b + n ≤ 16` (30_encoding.md R175, 40_fp.md R255). -/
def sopCountOk (a b n : Nat) : Bool := decide (1 ≤ n) && decide (a + n ≤ 16) && decide (b + n ≤ 16)

/-- The count check of `PP.BATCHNORM`: `1 ≤ n`, `d + n ≤ 8`, `a + n ≤ 8` (30_encoding.md R175, 44_projective.md R501). -/
def batchCountOk (d a n : Nat) : Bool := decide (1 ≤ n) && decide (d + n ≤ 8) && decide (a + n ≤ 8)

/-- Whether a term is a legal command (30_encoding.md R174 to R177). -/
def Instr.wellFormed : Instr → Bool
  | .nop => true
  | .fpZero _ => true
  | .fpOne _ => true
  | .fpMov _ _ => true
  | .fpIszero _ => true
  | .fpEq _ _ => true
  | .fpAdd _ _ _ => true
  | .fpSub _ _ _ => true
  | .fpNeg _ _ => true
  | .fpMul _ _ _ => true
  | .fpSqr _ _ => true
  | .fpInv _ _ => true
  | .fpSqrt _ _ => true
  | .fpLexl _ => true
  | .fpTobytes _ => true
  | .fpFrombytes _ => true
  | .fpSop _ a b n => sopCountOk a b n
  | .fp2Zero _ => true
  | .fp2One _ => true
  | .fp2Mov _ _ => true
  | .fp2Pack _ _ _ => true
  | .fp2C0 _ _ => true
  | .fp2C1 _ _ => true
  | .fp2Iszero _ => true
  | .fp2Eq _ _ => true
  | .fp2Add _ _ _ => true
  | .fp2Sub _ _ _ => true
  | .fp2Neg _ _ => true
  | .fp2Mul _ _ _ => true
  | .fp2Sqr _ _ => true
  | .fp2Conj _ _ => true
  | .fp2Frob _ _ => true
  | .fp2Mulnr _ _ => true
  | .fp2Inv _ _ => true
  | .fp2Sqrt _ _ => true
  | .fp2Pow _ _ _ => true
  | .scZero _ => true
  | .scOne _ => true
  | .scMov _ _ => true
  | .scIszero _ => true
  | .scEq _ _ => true
  | .scAdd _ _ _ => true
  | .scSub _ _ _ => true
  | .scNeg _ _ => true
  | .scMul _ _ _ => true
  | .scSqr _ _ => true
  | .scInv _ _ => true
  | .scSqrt _ _ => true
  | .scPow _ _ _ => true
  | .scTobytes _ => true
  | .scFrombytes _ => true
  | .scFromwide _ => true
  | .paIdentity _ => true
  | .paGen _ => true
  | .paMov _ _ => true
  | .paSet _ _ _ => true
  | .paGetx _ _ => true
  | .paGety _ _ => true
  | .paIsid _ => true
  | .paOncurve _ => true
  | .paTorsionfree _ => true
  | .paEq _ _ => true
  | .paNeg _ _ => true
  | .paEndo _ _ => true
  | .paFromproj _ _ => true
  | .paAdd _ _ _ => true
  | .paMul _ _ _ => true
  | .paTocomp _ => true
  | .paTouncomp _ => true
  | .paFromcomp _ => true
  | .paFromcompu _ => true
  | .paFromuncomp _ => true
  | .paFromuncompu _ => true
  | .ppIdentity _ => true
  | .ppGen _ => true
  | .ppMov _ _ => true
  | .ppSet _ _ _ _ => true
  | .ppGetx _ _ => true
  | .ppGety _ _ => true
  | .ppGetz _ _ => true
  | .ppFromaff _ _ => true
  | .ppIsid _ => true
  | .ppOncurve _ => true
  | .ppEq _ _ => true
  | .ppNeg _ _ => true
  | .ppDbl _ _ => true
  | .ppAdd _ _ _ => true
  | .ppSub _ _ _ => true
  | .ppAddm _ _ _ => true
  | .ppMul _ _ _ => true
  | .ppClearcof _ _ => true
  | .ppBatchnorm d a n => batchCountOk d a n

end Sys2Proof
end

