-- ==== Sys2Proof/Decode.lean ====
section
/-! DEFINITION. Decode.lean: the command word's fields (30_encoding.md R171), the opcode map as data (R178), the decoder of R183,
total on all 2^32 words and rejecting with a named reason, and after it the encoder of R185. -/

namespace Sys2Proof

/-! ## Fields -/

/-- The fields of a command word (30_encoding.md R171). -/
structure Fields where
  op : BitVec 8
  d : BitVec 4
  a : BitVec 4
  b : BitVec 4
  c : BitVec 4
  z : BitVec 8
  deriving DecidableEq, Repr

/-- `op = w[31:24]`, `d = w[23:20]`, `a = w[19:16]`, `b = w[15:12]`, `c = w[11:8]`, `z = w[7:0]` (30_encoding.md R171). -/
def fieldsOf (w : Word) : Fields where
  op := w.extractLsb' 24 8
  d := w.extractLsb' 20 4
  a := w.extractLsb' 16 4
  b := w.extractLsb' 12 4
  c := w.extractLsb' 8 4
  z := w.extractLsb' 0 8

/-- The word with the given fields, `op` in the most significant place (30_encoding.md R171, R185). -/
def pack (x : Fields) : Word := x.op ++ x.d ++ x.a ++ x.b ++ x.c ++ x.z

/-! ## The opcode map as data -/

/-- What one of the fields d, a, b, c of a row holds (30_encoding.md R178, columns d, a, b, c). -/
inductive OperandKind where
  | unused
  | reg (file : RegFile)
  | count
  deriving DecidableEq, Repr

/-- One row of the opcode map of 30_encoding.md R178. `pattern` is the column `match`. -/
structure OpcodeRow where
  mnemonic : String
  op : Nat
  d : OperandKind
  a : OperandKind
  b : OperandKind
  c : OperandKind
  pattern : Word
  mask : Word
  deriving DecidableEq, Repr

/-- The rows of the opcode map whose mnemonic begins with `NOP` (30_encoding.md R178). -/
def opcodeRowsSystem : List OpcodeRow := [
  ⟨"NOP", 0x00, .unused, .unused, .unused, .unused, 0x00000000#32, 0xFFFFFFFF#32⟩]

/-- The rows of the opcode map whose mnemonic begins with `FP` (30_encoding.md R178). -/
def opcodeRowsFp : List OpcodeRow := [
  ⟨"FP.ZERO", 0x01, .reg .F, .unused, .unused, .unused, 0x01000000#32, 0xFF0FFFFF#32⟩,
  ⟨"FP.ONE", 0x02, .reg .F, .unused, .unused, .unused, 0x02000000#32, 0xFF0FFFFF#32⟩,
  ⟨"FP.MOV", 0x03, .reg .F, .reg .F, .unused, .unused, 0x03000000#32, 0xFF00FFFF#32⟩,
  ⟨"FP.ISZERO", 0x04, .unused, .reg .F, .unused, .unused, 0x04000000#32, 0xFFF0FFFF#32⟩,
  ⟨"FP.EQ", 0x05, .unused, .reg .F, .reg .F, .unused, 0x05000000#32, 0xFFF00FFF#32⟩,
  ⟨"FP.ADD", 0x06, .reg .F, .reg .F, .reg .F, .unused, 0x06000000#32, 0xFF000FFF#32⟩,
  ⟨"FP.SUB", 0x07, .reg .F, .reg .F, .reg .F, .unused, 0x07000000#32, 0xFF000FFF#32⟩,
  ⟨"FP.NEG", 0x08, .reg .F, .reg .F, .unused, .unused, 0x08000000#32, 0xFF00FFFF#32⟩,
  ⟨"FP.MUL", 0x09, .reg .F, .reg .F, .reg .F, .unused, 0x09000000#32, 0xFF000FFF#32⟩,
  ⟨"FP.SQR", 0x0A, .reg .F, .reg .F, .unused, .unused, 0x0A000000#32, 0xFF00FFFF#32⟩,
  ⟨"FP.INV", 0x0B, .reg .F, .reg .F, .unused, .unused, 0x0B000000#32, 0xFF00FFFF#32⟩,
  ⟨"FP.SQRT", 0x0C, .reg .F, .reg .F, .unused, .unused, 0x0C000000#32, 0xFF00FFFF#32⟩,
  ⟨"FP.LEXL", 0x0D, .unused, .reg .F, .unused, .unused, 0x0D000000#32, 0xFFF0FFFF#32⟩,
  ⟨"FP.TOBYTES", 0x0E, .unused, .reg .F, .unused, .unused, 0x0E000000#32, 0xFFF0FFFF#32⟩,
  ⟨"FP.FROMBYTES", 0x0F, .reg .F, .unused, .unused, .unused, 0x0F000000#32, 0xFF0FFFFF#32⟩,
  ⟨"FP.SOP", 0x10, .reg .F, .reg .F, .reg .F, .count, 0x10000000#32, 0xFF0000FF#32⟩]

/-- The rows of the opcode map whose mnemonic begins with `FP2` (30_encoding.md R178). -/
def opcodeRowsFp2 : List OpcodeRow := [
  ⟨"FP2.ZERO", 0x20, .reg .E, .unused, .unused, .unused, 0x20000000#32, 0xFF0FFFFF#32⟩,
  ⟨"FP2.ONE", 0x21, .reg .E, .unused, .unused, .unused, 0x21000000#32, 0xFF0FFFFF#32⟩,
  ⟨"FP2.MOV", 0x22, .reg .E, .reg .E, .unused, .unused, 0x22000000#32, 0xFF00FFFF#32⟩,
  ⟨"FP2.PACK", 0x23, .reg .E, .reg .F, .reg .F, .unused, 0x23000000#32, 0xFF000FFF#32⟩,
  ⟨"FP2.C0", 0x24, .reg .F, .reg .E, .unused, .unused, 0x24000000#32, 0xFF00FFFF#32⟩,
  ⟨"FP2.C1", 0x25, .reg .F, .reg .E, .unused, .unused, 0x25000000#32, 0xFF00FFFF#32⟩,
  ⟨"FP2.ISZERO", 0x26, .unused, .reg .E, .unused, .unused, 0x26000000#32, 0xFFF0FFFF#32⟩,
  ⟨"FP2.EQ", 0x27, .unused, .reg .E, .reg .E, .unused, 0x27000000#32, 0xFFF00FFF#32⟩,
  ⟨"FP2.ADD", 0x28, .reg .E, .reg .E, .reg .E, .unused, 0x28000000#32, 0xFF000FFF#32⟩,
  ⟨"FP2.SUB", 0x29, .reg .E, .reg .E, .reg .E, .unused, 0x29000000#32, 0xFF000FFF#32⟩,
  ⟨"FP2.NEG", 0x2A, .reg .E, .reg .E, .unused, .unused, 0x2A000000#32, 0xFF00FFFF#32⟩,
  ⟨"FP2.MUL", 0x2B, .reg .E, .reg .E, .reg .E, .unused, 0x2B000000#32, 0xFF000FFF#32⟩,
  ⟨"FP2.SQR", 0x2C, .reg .E, .reg .E, .unused, .unused, 0x2C000000#32, 0xFF00FFFF#32⟩,
  ⟨"FP2.CONJ", 0x2D, .reg .E, .reg .E, .unused, .unused, 0x2D000000#32, 0xFF00FFFF#32⟩,
  ⟨"FP2.FROB", 0x2E, .reg .E, .reg .E, .unused, .unused, 0x2E000000#32, 0xFF00FFFF#32⟩,
  ⟨"FP2.MULNR", 0x2F, .reg .E, .reg .E, .unused, .unused, 0x2F000000#32, 0xFF00FFFF#32⟩,
  ⟨"FP2.INV", 0x30, .reg .E, .reg .E, .unused, .unused, 0x30000000#32, 0xFF00FFFF#32⟩,
  ⟨"FP2.SQRT", 0x31, .reg .E, .reg .E, .unused, .unused, 0x31000000#32, 0xFF00FFFF#32⟩,
  ⟨"FP2.POW", 0x32, .reg .E, .reg .E, .reg .F, .unused, 0x32000000#32, 0xFF000FFF#32⟩]

/-- The rows of the opcode map whose mnemonic begins with `SC` (30_encoding.md R178). -/
def opcodeRowsScalar : List OpcodeRow := [
  ⟨"SC.ZERO", 0x40, .reg .S, .unused, .unused, .unused, 0x40000000#32, 0xFF0FFFFF#32⟩,
  ⟨"SC.ONE", 0x41, .reg .S, .unused, .unused, .unused, 0x41000000#32, 0xFF0FFFFF#32⟩,
  ⟨"SC.MOV", 0x42, .reg .S, .reg .S, .unused, .unused, 0x42000000#32, 0xFF00FFFF#32⟩,
  ⟨"SC.ISZERO", 0x43, .unused, .reg .S, .unused, .unused, 0x43000000#32, 0xFFF0FFFF#32⟩,
  ⟨"SC.EQ", 0x44, .unused, .reg .S, .reg .S, .unused, 0x44000000#32, 0xFFF00FFF#32⟩,
  ⟨"SC.ADD", 0x45, .reg .S, .reg .S, .reg .S, .unused, 0x45000000#32, 0xFF000FFF#32⟩,
  ⟨"SC.SUB", 0x46, .reg .S, .reg .S, .reg .S, .unused, 0x46000000#32, 0xFF000FFF#32⟩,
  ⟨"SC.NEG", 0x47, .reg .S, .reg .S, .unused, .unused, 0x47000000#32, 0xFF00FFFF#32⟩,
  ⟨"SC.MUL", 0x48, .reg .S, .reg .S, .reg .S, .unused, 0x48000000#32, 0xFF000FFF#32⟩,
  ⟨"SC.SQR", 0x49, .reg .S, .reg .S, .unused, .unused, 0x49000000#32, 0xFF00FFFF#32⟩,
  ⟨"SC.INV", 0x4A, .reg .S, .reg .S, .unused, .unused, 0x4A000000#32, 0xFF00FFFF#32⟩,
  ⟨"SC.SQRT", 0x4B, .reg .S, .reg .S, .unused, .unused, 0x4B000000#32, 0xFF00FFFF#32⟩,
  ⟨"SC.POW", 0x4C, .reg .S, .reg .S, .reg .S, .unused, 0x4C000000#32, 0xFF000FFF#32⟩,
  ⟨"SC.TOBYTES", 0x4D, .unused, .reg .S, .unused, .unused, 0x4D000000#32, 0xFFF0FFFF#32⟩,
  ⟨"SC.FROMBYTES", 0x4E, .reg .S, .unused, .unused, .unused, 0x4E000000#32, 0xFF0FFFFF#32⟩,
  ⟨"SC.FROMWIDE", 0x4F, .reg .S, .unused, .unused, .unused, 0x4F000000#32, 0xFF0FFFFF#32⟩]

/-- The rows of the opcode map whose mnemonic begins with `PA` (30_encoding.md R178). -/
def opcodeRowsAffine : List OpcodeRow := [
  ⟨"PA.IDENTITY", 0x60, .reg .A, .unused, .unused, .unused, 0x60000000#32, 0xFF0FFFFF#32⟩,
  ⟨"PA.GEN", 0x61, .reg .A, .unused, .unused, .unused, 0x61000000#32, 0xFF0FFFFF#32⟩,
  ⟨"PA.MOV", 0x62, .reg .A, .reg .A, .unused, .unused, 0x62000000#32, 0xFF00FFFF#32⟩,
  ⟨"PA.SET", 0x63, .reg .A, .reg .F, .reg .F, .unused, 0x63000000#32, 0xFF000FFF#32⟩,
  ⟨"PA.GETX", 0x64, .reg .F, .reg .A, .unused, .unused, 0x64000000#32, 0xFF00FFFF#32⟩,
  ⟨"PA.GETY", 0x65, .reg .F, .reg .A, .unused, .unused, 0x65000000#32, 0xFF00FFFF#32⟩,
  ⟨"PA.ISID", 0x66, .unused, .reg .A, .unused, .unused, 0x66000000#32, 0xFFF0FFFF#32⟩,
  ⟨"PA.ONCURVE", 0x67, .unused, .reg .A, .unused, .unused, 0x67000000#32, 0xFFF0FFFF#32⟩,
  ⟨"PA.TORSIONFREE", 0x68, .unused, .reg .A, .unused, .unused, 0x68000000#32, 0xFFF0FFFF#32⟩,
  ⟨"PA.EQ", 0x69, .unused, .reg .A, .reg .A, .unused, 0x69000000#32, 0xFFF00FFF#32⟩,
  ⟨"PA.NEG", 0x6A, .reg .A, .reg .A, .unused, .unused, 0x6A000000#32, 0xFF00FFFF#32⟩,
  ⟨"PA.ENDO", 0x6B, .reg .A, .reg .A, .unused, .unused, 0x6B000000#32, 0xFF00FFFF#32⟩,
  ⟨"PA.FROMPROJ", 0x6C, .reg .A, .reg .P, .unused, .unused, 0x6C000000#32, 0xFF00FFFF#32⟩,
  ⟨"PA.ADD", 0x6D, .reg .P, .reg .A, .reg .A, .unused, 0x6D000000#32, 0xFF000FFF#32⟩,
  ⟨"PA.MUL", 0x6E, .reg .P, .reg .A, .reg .S, .unused, 0x6E000000#32, 0xFF000FFF#32⟩,
  ⟨"PA.TOCOMP", 0x6F, .unused, .reg .A, .unused, .unused, 0x6F000000#32, 0xFFF0FFFF#32⟩,
  ⟨"PA.TOUNCOMP", 0x70, .unused, .reg .A, .unused, .unused, 0x70000000#32, 0xFFF0FFFF#32⟩,
  ⟨"PA.FROMCOMP", 0x71, .reg .A, .unused, .unused, .unused, 0x71000000#32, 0xFF0FFFFF#32⟩,
  ⟨"PA.FROMCOMPU", 0x72, .reg .A, .unused, .unused, .unused, 0x72000000#32, 0xFF0FFFFF#32⟩,
  ⟨"PA.FROMUNCOMP", 0x73, .reg .A, .unused, .unused, .unused, 0x73000000#32, 0xFF0FFFFF#32⟩,
  ⟨"PA.FROMUNCOMPU", 0x74, .reg .A, .unused, .unused, .unused, 0x74000000#32, 0xFF0FFFFF#32⟩]

/-- The rows of the opcode map whose mnemonic begins with `PP` (30_encoding.md R178). -/
def opcodeRowsProjective : List OpcodeRow := [
  ⟨"PP.IDENTITY", 0x80, .reg .P, .unused, .unused, .unused, 0x80000000#32, 0xFF0FFFFF#32⟩,
  ⟨"PP.GEN", 0x81, .reg .P, .unused, .unused, .unused, 0x81000000#32, 0xFF0FFFFF#32⟩,
  ⟨"PP.MOV", 0x82, .reg .P, .reg .P, .unused, .unused, 0x82000000#32, 0xFF00FFFF#32⟩,
  ⟨"PP.SET", 0x83, .reg .P, .reg .F, .reg .F, .reg .F, 0x83000000#32, 0xFF0000FF#32⟩,
  ⟨"PP.GETX", 0x84, .reg .F, .reg .P, .unused, .unused, 0x84000000#32, 0xFF00FFFF#32⟩,
  ⟨"PP.GETY", 0x85, .reg .F, .reg .P, .unused, .unused, 0x85000000#32, 0xFF00FFFF#32⟩,
  ⟨"PP.GETZ", 0x86, .reg .F, .reg .P, .unused, .unused, 0x86000000#32, 0xFF00FFFF#32⟩,
  ⟨"PP.FROMAFF", 0x87, .reg .P, .reg .A, .unused, .unused, 0x87000000#32, 0xFF00FFFF#32⟩,
  ⟨"PP.ISID", 0x88, .unused, .reg .P, .unused, .unused, 0x88000000#32, 0xFFF0FFFF#32⟩,
  ⟨"PP.ONCURVE", 0x89, .unused, .reg .P, .unused, .unused, 0x89000000#32, 0xFFF0FFFF#32⟩,
  ⟨"PP.EQ", 0x8A, .unused, .reg .P, .reg .P, .unused, 0x8A000000#32, 0xFFF00FFF#32⟩,
  ⟨"PP.NEG", 0x8B, .reg .P, .reg .P, .unused, .unused, 0x8B000000#32, 0xFF00FFFF#32⟩,
  ⟨"PP.DBL", 0x8C, .reg .P, .reg .P, .unused, .unused, 0x8C000000#32, 0xFF00FFFF#32⟩,
  ⟨"PP.ADD", 0x8D, .reg .P, .reg .P, .reg .P, .unused, 0x8D000000#32, 0xFF000FFF#32⟩,
  ⟨"PP.SUB", 0x8E, .reg .P, .reg .P, .reg .P, .unused, 0x8E000000#32, 0xFF000FFF#32⟩,
  ⟨"PP.ADDM", 0x8F, .reg .P, .reg .P, .reg .A, .unused, 0x8F000000#32, 0xFF000FFF#32⟩,
  ⟨"PP.MUL", 0x90, .reg .P, .reg .P, .reg .S, .unused, 0x90000000#32, 0xFF000FFF#32⟩,
  ⟨"PP.CLEARCOF", 0x91, .reg .P, .reg .P, .unused, .unused, 0x91000000#32, 0xFF00FFFF#32⟩,
  ⟨"PP.BATCHNORM", 0x92, .reg .A, .reg .P, .unused, .count, 0x92000000#32, 0xFF00F0FF#32⟩]

/-- The complete opcode map, 92 rows (30_encoding.md R178). -/
def opcodeTable : List OpcodeRow :=
  opcodeRowsSystem ++ opcodeRowsFp ++ opcodeRowsFp2 ++ opcodeRowsScalar ++ opcodeRowsAffine ++ opcodeRowsProjective

/-! ## Decoder -/

/-- Why a word is not a command: the five `return ILLEGAL` of 30_encoding.md R183. -/
inductive IllegalReason where
  /-- `z ≠ 0` (R177). -/
  | reservedByte
  /-- The opcode is in no row (R181). -/
  | unassignedOpcode
  /-- A field the format does not use is nonzero (R176). -/
  | unusedField
  /-- An index of 8 to 15 into E, S, A or P (R174). -/
  | indexOutOfRange
  /-- A count of 0, or one that runs past the end of its file (R175). -/
  | badCount
  deriving DecidableEq, Repr

/-- A field that indexes `F`: every 4-bit value is an index (30_encoding.md R174). -/
def regF (v : BitVec 4) : Except IllegalReason FReg := .ok ⟨v.toNat, v.isLt⟩

/-- A field that indexes `E`, `S`, `A` or `P`: 0 to 7 (30_encoding.md R174). -/
def reg8 (v : BitVec 4) : Except IllegalReason (Fin 8) :=
  if h : v.toNat < 8 then .ok ⟨v.toNat, h⟩ else .error .indexOutOfRange

/-- Format N: no field used (30_encoding.md R172). -/
def formatN (x : Fields) (i : Instr) : Except IllegalReason Instr :=
  if x.d ≠ 0 ∨ x.a ≠ 0 ∨ x.b ≠ 0 ∨ x.c ≠ 0 then .error .unusedField else .ok i

/-- Format D (30_encoding.md R172). -/
def formatD {α : Type} (x : Fields) (fd : BitVec 4 → Except IllegalReason α) (mk : α → Instr) : Except IllegalReason Instr :=
  if x.a ≠ 0 ∨ x.b ≠ 0 ∨ x.c ≠ 0 then .error .unusedField else do
    let d ← fd x.d
    return mk d

/-- Format A1 (30_encoding.md R172). -/
def formatA1 {α : Type} (x : Fields) (fa : BitVec 4 → Except IllegalReason α) (mk : α → Instr) : Except IllegalReason Instr :=
  if x.d ≠ 0 ∨ x.b ≠ 0 ∨ x.c ≠ 0 then .error .unusedField else do
    let a ← fa x.a
    return mk a

/-- Format A2 (30_encoding.md R172). -/
def formatA2 {α β : Type} (x : Fields) (fa : BitVec 4 → Except IllegalReason α) (fb : BitVec 4 → Except IllegalReason β)
    (mk : α → β → Instr) : Except IllegalReason Instr :=
  if x.d ≠ 0 ∨ x.c ≠ 0 then .error .unusedField else do
    let a ← fa x.a
    let b ← fb x.b
    return mk a b

/-- Format DA (30_encoding.md R172). -/
def formatDA {α β : Type} (x : Fields) (fd : BitVec 4 → Except IllegalReason α) (fa : BitVec 4 → Except IllegalReason β)
    (mk : α → β → Instr) : Except IllegalReason Instr :=
  if x.b ≠ 0 ∨ x.c ≠ 0 then .error .unusedField else do
    let d ← fd x.d
    let a ← fa x.a
    return mk d a

/-- Format DAB (30_encoding.md R172). -/
def formatDAB {α β γ : Type} (x : Fields) (fd : BitVec 4 → Except IllegalReason α) (fa : BitVec 4 → Except IllegalReason β)
    (fb : BitVec 4 → Except IllegalReason γ) (mk : α → β → γ → Instr) : Except IllegalReason Instr :=
  if x.c ≠ 0 then .error .unusedField else do
    let d ← fd x.d
    let a ← fa x.a
    let b ← fb x.b
    return mk d a b

/-- Format DABC, used by `PP.SET` alone: every field used (30_encoding.md R172). -/
def formatDABC (x : Fields) (mk : PReg → FReg → FReg → FReg → Instr) : Except IllegalReason Instr := do
  let d ← reg8 x.d
  let a ← regF x.a
  let b ← regF x.b
  let c ← regF x.c
  return mk d a b c

/-- Format DABN, used by `FP.SOP` alone: two register ranges and a count (30_encoding.md R172, R175). -/
def formatDABN (x : Fields) (mk : FReg → FReg → FReg → Count → Instr) : Except IllegalReason Instr := do
  let d ← regF x.d
  let a ← regF x.a
  let b ← regF x.b
  if sopCountOk x.a.toNat x.b.toNat x.c.toNat then return mk d a b ⟨x.c.toNat, x.c.isLt⟩ else .error .badCount

/-- Format DAN, used by `PP.BATCHNORM` alone: one range in each of two files and a count (30_encoding.md R172, R175). -/
def formatDAN (x : Fields) (mk : AReg → PReg → Count → Instr) : Except IllegalReason Instr :=
  if x.b ≠ 0 then .error .unusedField else do
    let d ← reg8 x.d
    let a ← reg8 x.a
    if batchCountOk x.d.toNat x.a.toNat x.c.toNat then return mk d a ⟨x.c.toNat, x.c.isLt⟩ else .error .badCount

/-- The decoding function on the fields of a word (30_encoding.md R183). -/
def decodeFields (x : Fields) : Except IllegalReason Instr :=
  if x.z ≠ 0 then .error .reservedByte else
  match x.op.toNat with
  | 0x00 => formatN x .nop
  | 0x01 => formatD x regF .fpZero
  | 0x02 => formatD x regF .fpOne
  | 0x03 => formatDA x regF regF .fpMov
  | 0x04 => formatA1 x regF .fpIszero
  | 0x05 => formatA2 x regF regF .fpEq
  | 0x06 => formatDAB x regF regF regF .fpAdd
  | 0x07 => formatDAB x regF regF regF .fpSub
  | 0x08 => formatDA x regF regF .fpNeg
  | 0x09 => formatDAB x regF regF regF .fpMul
  | 0x0A => formatDA x regF regF .fpSqr
  | 0x0B => formatDA x regF regF .fpInv
  | 0x0C => formatDA x regF regF .fpSqrt
  | 0x0D => formatA1 x regF .fpLexl
  | 0x0E => formatA1 x regF .fpTobytes
  | 0x0F => formatD x regF .fpFrombytes
  | 0x10 => formatDABN x .fpSop
  | 0x20 => formatD x reg8 .fp2Zero
  | 0x21 => formatD x reg8 .fp2One
  | 0x22 => formatDA x reg8 reg8 .fp2Mov
  | 0x23 => formatDAB x reg8 regF regF .fp2Pack
  | 0x24 => formatDA x regF reg8 .fp2C0
  | 0x25 => formatDA x regF reg8 .fp2C1
  | 0x26 => formatA1 x reg8 .fp2Iszero
  | 0x27 => formatA2 x reg8 reg8 .fp2Eq
  | 0x28 => formatDAB x reg8 reg8 reg8 .fp2Add
  | 0x29 => formatDAB x reg8 reg8 reg8 .fp2Sub
  | 0x2A => formatDA x reg8 reg8 .fp2Neg
  | 0x2B => formatDAB x reg8 reg8 reg8 .fp2Mul
  | 0x2C => formatDA x reg8 reg8 .fp2Sqr
  | 0x2D => formatDA x reg8 reg8 .fp2Conj
  | 0x2E => formatDA x reg8 reg8 .fp2Frob
  | 0x2F => formatDA x reg8 reg8 .fp2Mulnr
  | 0x30 => formatDA x reg8 reg8 .fp2Inv
  | 0x31 => formatDA x reg8 reg8 .fp2Sqrt
  | 0x32 => formatDAB x reg8 reg8 regF .fp2Pow
  | 0x40 => formatD x reg8 .scZero
  | 0x41 => formatD x reg8 .scOne
  | 0x42 => formatDA x reg8 reg8 .scMov
  | 0x43 => formatA1 x reg8 .scIszero
  | 0x44 => formatA2 x reg8 reg8 .scEq
  | 0x45 => formatDAB x reg8 reg8 reg8 .scAdd
  | 0x46 => formatDAB x reg8 reg8 reg8 .scSub
  | 0x47 => formatDA x reg8 reg8 .scNeg
  | 0x48 => formatDAB x reg8 reg8 reg8 .scMul
  | 0x49 => formatDA x reg8 reg8 .scSqr
  | 0x4A => formatDA x reg8 reg8 .scInv
  | 0x4B => formatDA x reg8 reg8 .scSqrt
  | 0x4C => formatDAB x reg8 reg8 reg8 .scPow
  | 0x4D => formatA1 x reg8 .scTobytes
  | 0x4E => formatD x reg8 .scFrombytes
  | 0x4F => formatD x reg8 .scFromwide
  | 0x60 => formatD x reg8 .paIdentity
  | 0x61 => formatD x reg8 .paGen
  | 0x62 => formatDA x reg8 reg8 .paMov
  | 0x63 => formatDAB x reg8 regF regF .paSet
  | 0x64 => formatDA x regF reg8 .paGetx
  | 0x65 => formatDA x regF reg8 .paGety
  | 0x66 => formatA1 x reg8 .paIsid
  | 0x67 => formatA1 x reg8 .paOncurve
  | 0x68 => formatA1 x reg8 .paTorsionfree
  | 0x69 => formatA2 x reg8 reg8 .paEq
  | 0x6A => formatDA x reg8 reg8 .paNeg
  | 0x6B => formatDA x reg8 reg8 .paEndo
  | 0x6C => formatDA x reg8 reg8 .paFromproj
  | 0x6D => formatDAB x reg8 reg8 reg8 .paAdd
  | 0x6E => formatDAB x reg8 reg8 reg8 .paMul
  | 0x6F => formatA1 x reg8 .paTocomp
  | 0x70 => formatA1 x reg8 .paTouncomp
  | 0x71 => formatD x reg8 .paFromcomp
  | 0x72 => formatD x reg8 .paFromcompu
  | 0x73 => formatD x reg8 .paFromuncomp
  | 0x74 => formatD x reg8 .paFromuncompu
  | 0x80 => formatD x reg8 .ppIdentity
  | 0x81 => formatD x reg8 .ppGen
  | 0x82 => formatDA x reg8 reg8 .ppMov
  | 0x83 => formatDABC x .ppSet
  | 0x84 => formatDA x regF reg8 .ppGetx
  | 0x85 => formatDA x regF reg8 .ppGety
  | 0x86 => formatDA x regF reg8 .ppGetz
  | 0x87 => formatDA x reg8 reg8 .ppFromaff
  | 0x88 => formatA1 x reg8 .ppIsid
  | 0x89 => formatA1 x reg8 .ppOncurve
  | 0x8A => formatA2 x reg8 reg8 .ppEq
  | 0x8B => formatDA x reg8 reg8 .ppNeg
  | 0x8C => formatDA x reg8 reg8 .ppDbl
  | 0x8D => formatDAB x reg8 reg8 reg8 .ppAdd
  | 0x8E => formatDAB x reg8 reg8 reg8 .ppSub
  | 0x8F => formatDAB x reg8 reg8 reg8 .ppAddm
  | 0x90 => formatDAB x reg8 reg8 reg8 .ppMul
  | 0x91 => formatDA x reg8 reg8 .ppClearcof
  | 0x92 => formatDAN x .ppBatchnorm
  | _ => .error .unassignedOpcode

/-- `decode(w)` of 30_encoding.md R183, total on all 2^32 words. -/
def decode (w : Word) : Except IllegalReason Instr := decodeFields (fieldsOf w)

/-- A command word is illegal exactly when `decode` rejects it (30_encoding.md R186). -/
def isIllegal (w : Word) : Bool :=
  match decode w with
  | .ok _ => false
  | .error _ => true

/-- The decoder on an opcode-table word: `nbits` bits `w`, every bit above them 0. A command is one 32-bit word (R170), so the
table's numbering is the word's own. -/
def decodeTableWord (nbits w : Nat) : Option Instr :=
  match decode (BitVec.ofNat 32 (w % 2 ^ nbits)) with
  | .ok i => some i
  | .error _ => none

/-! ## Encoder -/

/-- A register index or a count as a 4-bit field. -/
def field4 (n : Nat) : BitVec 4 := BitVec.ofNat 4 n

/-- The fields of a command: its opcode and its operands, every unused field and the reserved byte 0 (30_encoding.md R185). -/
def Instr.fields : Instr → Fields
  | .nop => ⟨0x00#8, 0, 0, 0, 0, 0⟩
  | .fpZero d => ⟨0x01#8, field4 d, 0, 0, 0, 0⟩
  | .fpOne d => ⟨0x02#8, field4 d, 0, 0, 0, 0⟩
  | .fpMov d a => ⟨0x03#8, field4 d, field4 a, 0, 0, 0⟩
  | .fpIszero a => ⟨0x04#8, 0, field4 a, 0, 0, 0⟩
  | .fpEq a b => ⟨0x05#8, 0, field4 a, field4 b, 0, 0⟩
  | .fpAdd d a b => ⟨0x06#8, field4 d, field4 a, field4 b, 0, 0⟩
  | .fpSub d a b => ⟨0x07#8, field4 d, field4 a, field4 b, 0, 0⟩
  | .fpNeg d a => ⟨0x08#8, field4 d, field4 a, 0, 0, 0⟩
  | .fpMul d a b => ⟨0x09#8, field4 d, field4 a, field4 b, 0, 0⟩
  | .fpSqr d a => ⟨0x0A#8, field4 d, field4 a, 0, 0, 0⟩
  | .fpInv d a => ⟨0x0B#8, field4 d, field4 a, 0, 0, 0⟩
  | .fpSqrt d a => ⟨0x0C#8, field4 d, field4 a, 0, 0, 0⟩
  | .fpLexl a => ⟨0x0D#8, 0, field4 a, 0, 0, 0⟩
  | .fpTobytes a => ⟨0x0E#8, 0, field4 a, 0, 0, 0⟩
  | .fpFrombytes d => ⟨0x0F#8, field4 d, 0, 0, 0, 0⟩
  | .fpSop d a b n => ⟨0x10#8, field4 d, field4 a, field4 b, field4 n, 0⟩
  | .fp2Zero d => ⟨0x20#8, field4 d, 0, 0, 0, 0⟩
  | .fp2One d => ⟨0x21#8, field4 d, 0, 0, 0, 0⟩
  | .fp2Mov d a => ⟨0x22#8, field4 d, field4 a, 0, 0, 0⟩
  | .fp2Pack d a b => ⟨0x23#8, field4 d, field4 a, field4 b, 0, 0⟩
  | .fp2C0 d a => ⟨0x24#8, field4 d, field4 a, 0, 0, 0⟩
  | .fp2C1 d a => ⟨0x25#8, field4 d, field4 a, 0, 0, 0⟩
  | .fp2Iszero a => ⟨0x26#8, 0, field4 a, 0, 0, 0⟩
  | .fp2Eq a b => ⟨0x27#8, 0, field4 a, field4 b, 0, 0⟩
  | .fp2Add d a b => ⟨0x28#8, field4 d, field4 a, field4 b, 0, 0⟩
  | .fp2Sub d a b => ⟨0x29#8, field4 d, field4 a, field4 b, 0, 0⟩
  | .fp2Neg d a => ⟨0x2A#8, field4 d, field4 a, 0, 0, 0⟩
  | .fp2Mul d a b => ⟨0x2B#8, field4 d, field4 a, field4 b, 0, 0⟩
  | .fp2Sqr d a => ⟨0x2C#8, field4 d, field4 a, 0, 0, 0⟩
  | .fp2Conj d a => ⟨0x2D#8, field4 d, field4 a, 0, 0, 0⟩
  | .fp2Frob d a => ⟨0x2E#8, field4 d, field4 a, 0, 0, 0⟩
  | .fp2Mulnr d a => ⟨0x2F#8, field4 d, field4 a, 0, 0, 0⟩
  | .fp2Inv d a => ⟨0x30#8, field4 d, field4 a, 0, 0, 0⟩
  | .fp2Sqrt d a => ⟨0x31#8, field4 d, field4 a, 0, 0, 0⟩
  | .fp2Pow d a b => ⟨0x32#8, field4 d, field4 a, field4 b, 0, 0⟩
  | .scZero d => ⟨0x40#8, field4 d, 0, 0, 0, 0⟩
  | .scOne d => ⟨0x41#8, field4 d, 0, 0, 0, 0⟩
  | .scMov d a => ⟨0x42#8, field4 d, field4 a, 0, 0, 0⟩
  | .scIszero a => ⟨0x43#8, 0, field4 a, 0, 0, 0⟩
  | .scEq a b => ⟨0x44#8, 0, field4 a, field4 b, 0, 0⟩
  | .scAdd d a b => ⟨0x45#8, field4 d, field4 a, field4 b, 0, 0⟩
  | .scSub d a b => ⟨0x46#8, field4 d, field4 a, field4 b, 0, 0⟩
  | .scNeg d a => ⟨0x47#8, field4 d, field4 a, 0, 0, 0⟩
  | .scMul d a b => ⟨0x48#8, field4 d, field4 a, field4 b, 0, 0⟩
  | .scSqr d a => ⟨0x49#8, field4 d, field4 a, 0, 0, 0⟩
  | .scInv d a => ⟨0x4A#8, field4 d, field4 a, 0, 0, 0⟩
  | .scSqrt d a => ⟨0x4B#8, field4 d, field4 a, 0, 0, 0⟩
  | .scPow d a b => ⟨0x4C#8, field4 d, field4 a, field4 b, 0, 0⟩
  | .scTobytes a => ⟨0x4D#8, 0, field4 a, 0, 0, 0⟩
  | .scFrombytes d => ⟨0x4E#8, field4 d, 0, 0, 0, 0⟩
  | .scFromwide d => ⟨0x4F#8, field4 d, 0, 0, 0, 0⟩
  | .paIdentity d => ⟨0x60#8, field4 d, 0, 0, 0, 0⟩
  | .paGen d => ⟨0x61#8, field4 d, 0, 0, 0, 0⟩
  | .paMov d a => ⟨0x62#8, field4 d, field4 a, 0, 0, 0⟩
  | .paSet d a b => ⟨0x63#8, field4 d, field4 a, field4 b, 0, 0⟩
  | .paGetx d a => ⟨0x64#8, field4 d, field4 a, 0, 0, 0⟩
  | .paGety d a => ⟨0x65#8, field4 d, field4 a, 0, 0, 0⟩
  | .paIsid a => ⟨0x66#8, 0, field4 a, 0, 0, 0⟩
  | .paOncurve a => ⟨0x67#8, 0, field4 a, 0, 0, 0⟩
  | .paTorsionfree a => ⟨0x68#8, 0, field4 a, 0, 0, 0⟩
  | .paEq a b => ⟨0x69#8, 0, field4 a, field4 b, 0, 0⟩
  | .paNeg d a => ⟨0x6A#8, field4 d, field4 a, 0, 0, 0⟩
  | .paEndo d a => ⟨0x6B#8, field4 d, field4 a, 0, 0, 0⟩
  | .paFromproj d a => ⟨0x6C#8, field4 d, field4 a, 0, 0, 0⟩
  | .paAdd d a b => ⟨0x6D#8, field4 d, field4 a, field4 b, 0, 0⟩
  | .paMul d a b => ⟨0x6E#8, field4 d, field4 a, field4 b, 0, 0⟩
  | .paTocomp a => ⟨0x6F#8, 0, field4 a, 0, 0, 0⟩
  | .paTouncomp a => ⟨0x70#8, 0, field4 a, 0, 0, 0⟩
  | .paFromcomp d => ⟨0x71#8, field4 d, 0, 0, 0, 0⟩
  | .paFromcompu d => ⟨0x72#8, field4 d, 0, 0, 0, 0⟩
  | .paFromuncomp d => ⟨0x73#8, field4 d, 0, 0, 0, 0⟩
  | .paFromuncompu d => ⟨0x74#8, field4 d, 0, 0, 0, 0⟩
  | .ppIdentity d => ⟨0x80#8, field4 d, 0, 0, 0, 0⟩
  | .ppGen d => ⟨0x81#8, field4 d, 0, 0, 0, 0⟩
  | .ppMov d a => ⟨0x82#8, field4 d, field4 a, 0, 0, 0⟩
  | .ppSet d a b c => ⟨0x83#8, field4 d, field4 a, field4 b, field4 c, 0⟩
  | .ppGetx d a => ⟨0x84#8, field4 d, field4 a, 0, 0, 0⟩
  | .ppGety d a => ⟨0x85#8, field4 d, field4 a, 0, 0, 0⟩
  | .ppGetz d a => ⟨0x86#8, field4 d, field4 a, 0, 0, 0⟩
  | .ppFromaff d a => ⟨0x87#8, field4 d, field4 a, 0, 0, 0⟩
  | .ppIsid a => ⟨0x88#8, 0, field4 a, 0, 0, 0⟩
  | .ppOncurve a => ⟨0x89#8, 0, field4 a, 0, 0, 0⟩
  | .ppEq a b => ⟨0x8A#8, 0, field4 a, field4 b, 0, 0⟩
  | .ppNeg d a => ⟨0x8B#8, field4 d, field4 a, 0, 0, 0⟩
  | .ppDbl d a => ⟨0x8C#8, field4 d, field4 a, 0, 0, 0⟩
  | .ppAdd d a b => ⟨0x8D#8, field4 d, field4 a, field4 b, 0, 0⟩
  | .ppSub d a b => ⟨0x8E#8, field4 d, field4 a, field4 b, 0, 0⟩
  | .ppAddm d a b => ⟨0x8F#8, field4 d, field4 a, field4 b, 0, 0⟩
  | .ppMul d a b => ⟨0x90#8, field4 d, field4 a, field4 b, 0, 0⟩
  | .ppClearcof d a => ⟨0x91#8, field4 d, field4 a, 0, 0, 0⟩
  | .ppBatchnorm d a n => ⟨0x92#8, field4 d, field4 a, 0, field4 n, 0⟩

/-- `w = op << 24 | d << 20 | a << 16 | b << 12 | c << 8`, with unused fields 0 (30_encoding.md R185). -/
def encode (i : Instr) : Word := pack i.fields

end Sys2Proof
end

