-- ==== Sys2Proof/Machine/State.lean ====
section
/-! DEFINITION. Machine/State.lean: the architectural state of one core (spec/10_state.md R50) as plain data, the host side of the
register window (the accesses still to come and the value of the last read), and the state after reset (R74). -/

namespace Sys2Proof.Machine

/-- BUF as a list of (index, byte) pairs, indices strictly rising, no byte equal to 0, which is what an unlisted index reads as:
BUF's reset contents (10_state.md R60, R74). The form is `Memory.wf` of Machine/Memory.lean. -/
abbrev Memory := List Host.Cell

/-- The five typed register files and BUF (10_state.md R52 to R60): everything a command reads its operands from. -/
structure Files where
  /-- `F[0..15]`, canonical integers in `[0, p)` (R52). -/
  F : Vector Nat 16
  /-- `E[0..7]` (R53). -/
  E : Vector Fp2 8
  /-- `S[0..7]`, canonical integers in `[0, r)` (R54). -/
  S : Vector Nat 8
  /-- `A[0..7]` (R55). -/
  A : Vector Affine 8
  /-- `P[0..7]` (R57). -/
  P : Vector Proj 8
  /-- `BUF[0..95]` (R60). -/
  BUF : Memory
  deriving DecidableEq, Repr

/-- The in-flight command record: the accepted word together with the values it read (10_state.md R72). The record holds all
the files as they were at acceptance, of which the command reads some (notes/assumptions/5.md). -/
structure InFlight where
  word : Word
  operands : Files
  deriving DecidableEq, Repr

/-- The four errors of 10_state.md R65. -/
inductive ErrorKind where
  /-- Code 1: `FP.INV`, `FP2.INV`, `SC.INV` on zero. -/
  | notInvertible
  /-- Code 2: `FP.SQRT`, `FP2.SQRT`, `SC.SQRT` on a non-residue. -/
  | notASquare
  /-- Code 3: `FP.FROMBYTES`, `SC.FROMBYTES`, the four `PA.FROM*` decoders. -/
  | malformedEncoding
  /-- Code 4: any command word that the decoder rejects. -/
  | illegalCommand
  deriving DecidableEq, Repr

/-- A host access to the register window at a byte offset, with its width in bytes (20_memory.md R120 to R123). -/
inductive HostAccess where
  | read (addr : Offset) (bytes : Nat)
  | write (addr : Offset) (bytes : Nat) (value : Word)
  deriving DecidableEq, Repr

/-- Who moves next: the host with its next access, the core with the completion of its in-flight command (nothing, when there is
none), or the platform's reset input (20_memory.md R143, 70_reset_and_hazards.md R620, R631). -/
inductive Turn where
  | host (access : HostAccess)
  | core
  | powerOnReset
  deriving DecidableEq, Repr

/-- The machine. The first seven fields are the spec's state of R50; the last three are the model's own. -/
structure State where
  /-- The register files and BUF (R52 to R60). -/
  files : Files
  /-- `CMD`, the last accepted command word (R61). -/
  CMD : Word
  /-- `STATUS.BUSY` (R63). -/
  BUSY : Bool
  /-- `STATUS.FLAG` (R66). -/
  FLAG : Bool
  /-- `STATUS.ERR` (R64). -/
  ERR : BitVec 4
  /-- `STATUS.STICKY`: bit k here is bit 8 + k of STATUS (R67). -/
  STICKY : BitVec 5
  /-- `PENDING` (R72). -/
  PENDING : Option InFlight
  /-- The model's own: the turns still to come, host accesses and completions in the order they happen; its order stands for the
  open parameter LATENCY (notes/assumptions/1.md). -/
  turns : List Turn
  /-- The model's own: the value the core returned for the last host read (notes/assumptions/4.md). -/
  readData : Word
  /-- The model's own: how many free values BUF reads while BUSY have drawn (notes/assumptions/2.md). -/
  draws : Nat
  deriving DecidableEq, Repr

/-- Nothing stops this machine: `The core never halts or locks up because of a command` (60_exceptions.md R577), every error is a
result code (R570), and no trap exists (R580). So there is no fault, and no one raises one; that is the spec's own statement and
neither an unsafe nor a safe departure from it. -/
inductive Fault where
  deriving DecidableEq, Repr

/-- Why a step has no meaning. -/
inductive Refusal where
  /-- Raised by an arm of `exec` whose command has no meaning yet. Safe: the machine stops. No arm raises it now. -/
  | notModelled (mnemonic : String)
  deriving DecidableEq, Repr

/-- The reset contents of the files (10_state.md R74): zeros, and the canonical identities for points. -/
def Files.reset : Files where
  F := Vector.replicate 16 0
  E := Vector.replicate 8 ⟨0, 0⟩
  S := Vector.replicate 8 0
  A := Vector.replicate 8 Affine.identity
  P := Vector.replicate 8 Proj.identity
  BUF := []

/-- The machine right after reset (10_state.md R74, 70_reset_and_hazards.md R621); no host access is waiting. The values of
the three fields of the model's own are DESIGN CHOICE (notes/assumptions/1.md, 2.md, 4.md). -/
def State.reset : State where
  files := Files.reset
  CMD := 0
  BUSY := false
  FLAG := false
  ERR := 0
  STICKY := 0
  PENDING := none
  turns := []
  readData := 0
  draws := 0

end Sys2Proof.Machine
end

