-- ==== Sys2Proof/Machine/Flags.lean ====
section
/-! DEFINITION. Machine/Flags.lean: the fields of STATUS and the values written to them (spec/10_state.md R62 to R68). -/

namespace Sys2Proof.Machine

/-- The result code of an error, written to `STATUS.ERR` (10_state.md R65, 60_exceptions.md R572). -/
def ErrorKind.code : ErrorKind → BitVec 4
  | .notInvertible => 1
  | .notASquare => 2
  | .malformedEncoding => 3
  | .illegalCommand => 4

/-- The STICKY bit of an error: bit `7 + k` of STATUS for code k, which is bit `k - 1` of the field (10_state.md R67). -/
def ErrorKind.stickyBit : ErrorKind → BitVec 5
  | .notInvertible => 0b00001
  | .notASquare => 0b00010
  | .malformedEncoding => 0b00100
  | .illegalCommand => 0b01000

/-- HOST_OVERRUN, bit 12 of STATUS (10_state.md R67). -/
def hostOverrunBit : BitVec 5 := 0b10000

/-- `STATUS.ERR` after a completion: 0 for a result, otherwise the error's code (10_state.md R64). -/
def errAfter : Option ErrorKind → BitVec 4
  | none => 0
  | some k => k.code

/-- `STATUS.STICKY` after a completion: the error's own bit ORed in (10_state.md R63, R67). -/
def stickyAfter (sticky : BitVec 5) : Option ErrorKind → BitVec 5
  | none => sticky
  | some k => sticky ||| k.stickyBit

/-- `STATUS.FLAG` as a predicate command writes it, 1 for true and 0 for false (10_state.md R66). -/
def State.setFLAG (s : State) (v : Bool) : State := { s with FLAG := v }

/-- HOST_OVERRUN set, as a dropped host write sets it (10_state.md R63, 20_memory.md R126, R128). -/
def State.overrun (s : State) : State := { s with STICKY := s.STICKY ||| hostOverrunBit }

/-- STICKY cleared, as `CTRL.CLEAR_STICKY` clears it (10_state.md R69). -/
def State.clearSticky (s : State) : State := { s with STICKY := 0 }

/-- The STATUS word: BUSY at bit 0, FLAG at bit 1, ERR at 7:4, STICKY at 12:8, every other bit 0 (10_state.md R62, R68). -/
def State.statusWord (s : State) : Word :=
  0#19 ++ s.STICKY ++ s.ERR ++ 0#2 ++ BitVec.ofBool s.FLAG ++ BitVec.ofBool s.BUSY

end Sys2Proof.Machine
end

