-- ==== Sys2Proof/Machine/Memory.lean ====
section
/-! DEFINITION. Machine/Memory.lean: reading and writing BUF, one byte and in sequences (spec/00_scope.md R20, 10_state.md R60). -/

namespace Sys2Proof.Machine

/-- How many bytes BUF has (10_state.md R60). -/
def bufSize : Nat := 96

/-- The canonical form of BUF: indices below 96 and strictly rising, no listed byte equal to 0. -/
def Memory.wf : Memory → Bool
  | [] => true
  | (k, v) :: rest => decide (k < bufSize) && decide (v ≠ 0) && rest.all (fun c => decide (k < c.1)) && Memory.wf rest

/-- `BUF[k]`; an unlisted index reads as 0, its reset value (10_state.md R74). -/
def bufByte : Memory → Nat → Byte
  | [], _ => 0
  | (j, v) :: rest, k => if j = k then v else bufByte rest k

/-- Put a byte at an index and keep the form: the byte 0 is not listed. -/
def putByte (k : Nat) (v : Byte) : Memory → Memory
  | [] => if v = 0 then [] else [(k, v)]
  | (j, u) :: rest =>
    if j < k then (j, u) :: putByte k v rest
    else if j = k then (if v = 0 then rest else (k, v) :: rest)
    else (if v = 0 then (j, u) :: rest else (k, v) :: (j, u) :: rest)

/-- `BUF[k] <- v`; BUF has 96 bytes and no other index exists. -/
def setByte (m : Memory) (k : Nat) (v : Byte) : Memory := if k < bufSize then putByte k v m else m

/-- `BufRead(off, n)`, the byte sequence `BUF[off..off+n-1]` (00_scope.md R20). -/
def bufRead (m : Memory) (off : Nat) : Nat → List Byte
  | 0 => []
  | n + 1 => bufByte m off :: bufRead m (off + 1) n

/-- `BufWrite(off, bs)`, the sequence `bs` to `BUF[off..]`, every other byte unchanged (00_scope.md R20, 10_state.md R60). -/
def bufWrite (m : Memory) (off : Nat) : List Byte → Memory
  | [] => m
  | v :: bs => bufWrite (setByte m off v) (off + 1) bs

end Sys2Proof.Machine
end

