-- ==== Sys2Proof/Machine/Operands.lean ====
section
/-! DEFINITION. Machine/Operands.lean: where a command's operands come from. An accepted command computes on the values captured
when it was accepted (spec/20_memory.md R128, R141, 10_state.md R72), and it reads all of them before it writes (R629). -/

namespace Sys2Proof.Machine

/-- The values a command's operands are read from: those captured by PENDING, or the registers themselves in a state with no
command in flight. -/
def State.operands (s : State) : Files :=
  match s.PENDING with
  | some q => q.operands
  | none => s.files

/-- `F[a]` as an operand (00_scope.md R19). -/
def State.opF (s : State) (a : FReg) : Nat := s.operands.F[a]
/-- `E[a]` as an operand (00_scope.md R19). -/
def State.opE (s : State) (a : EReg) : Fp2 := s.operands.E[a]
/-- `S[a]` as an operand (00_scope.md R19). -/
def State.opS (s : State) (a : SReg) : Nat := s.operands.S[a]
/-- `A[a]` as an operand (00_scope.md R19). -/
def State.opA (s : State) (a : AReg) : Affine := s.operands.A[a]
/-- `P[a]` as an operand (00_scope.md R19). -/
def State.opP (s : State) (a : PReg) : Proj := s.operands.P[a]

/-- The range `F[a..a+n-1]` as an operand (40_fp.md R255); ranges never wrap (30_encoding.md R175). -/
def State.rangeF (s : State) (a n : Nat) : List Nat := (s.operands.F.toList.drop a).take n

/-- The range `P[a..a+n-1]` as an operand (44_projective.md R501). -/
def State.rangeP (s : State) (a n : Nat) : List Proj := (s.operands.P.toList.drop a).take n

/-- `BufRead(0, n)` as an operand: commands access BUF at offset 0 alone (20_memory.md R141). -/
def State.opBuf (s : State) (n : Nat) : List Byte := bufRead s.operands.BUF 0 n

end Sys2Proof.Machine
end

