-- ==== Sys2Proof/Machine/Ops.lean ====
section
/-! DEFINITION. Machine/Ops.lean: the named operations over the registers that the commands' meanings share: writing a register, a
range or BUF, accepting a command, completing one with a result or with an error, and reset. This core has no trap to enter and
none to return from (spec/60_exceptions.md R570, R580, R581): completing with an error, `raise`, is what it has instead. -/

namespace Sys2Proof.Machine

/-- What `exec` and `step` answer. -/
abbrev Result := Host.Outcome State Fault Refusal

/-! ## Register writes (00_scope.md R19, R20) -/

/-- `F[d] <- v`. -/
def State.setF (s : State) (d : FReg) (v : Nat) : State := { s with files := { s.files with F := s.files.F.set d v } }

/-- `E[d] <- v`. -/
def State.setE (s : State) (d : EReg) (v : Fp2) : State := { s with files := { s.files with E := s.files.E.set d v } }

/-- `S[d] <- v`. -/
def State.setS (s : State) (d : SReg) (v : Nat) : State := { s with files := { s.files with S := s.files.S.set d v } }

/-- `A[d] <- v`. -/
def State.setA (s : State) (d : AReg) (v : Affine) : State := { s with files := { s.files with A := s.files.A.set d v } }

/-- `P[d] <- v`. -/
def State.setP (s : State) (d : PReg) (v : Proj) : State := { s with files := { s.files with P := s.files.P.set d v } }

/-- `BufWrite(0, bs)`: the leading bytes of BUF, the others unchanged (10_state.md R60, 20_memory.md R141). -/
def State.setBuf (s : State) (bs : List Byte) : State :=
  { s with files := { s.files with BUF := bufWrite s.files.BUF 0 bs } }

/-- A sequence of values to consecutive registers from index d; an index past the end of the file names no register. -/
def putRange (v : Vector Affine 8) (d : Nat) : List Affine → Vector Affine 8
  | [] => v
  | x :: xs => putRange (v.setIfInBounds d x) (d + 1) xs

/-- `A[d+i] <- xs[i]` for every i (44_projective.md R501). -/
def State.setRangeA (s : State) (d : Nat) (xs : List Affine) : State :=
  { s with files := { s.files with A := putRange s.files.A d xs } }

/-! ## Completion (60_exceptions.md R571) -/

/-- The bookkeeping of the completion step: ERR, STICKY, BUSY and PENDING (60_exceptions.md R571). -/
def State.complete (s : State) (code : Option ErrorKind) : State :=
  { s with ERR := errAfter code, STICKY := stickyAfter s.STICKY code, BUSY := false, PENDING := none }

/-- A command completes with its result: s is the state with its writes applied (60_exceptions.md R571). -/
def done (s : State) : Result := .next (s.complete none)

/-- `raise`: a command completes with an error and writes no register, no BUF byte and no FLAG (00_scope.md R22, 60_exceptions.md
R571, R573). -/
def raise (k : ErrorKind) (s : State) : Result := .next (s.complete (some k))

/-! ## Acceptance and reset -/

/-- The core captures a command: CMD and BUSY are set, and PENDING holds the word and the values it reads (20_memory.md R128). -/
def State.capture (s : State) (w : Word) : State :=
  { s with CMD := w, BUSY := true, PENDING := some ⟨w, s.files⟩ }

/-- Reset: every piece of the core's state takes its reset value, and an in-flight command is aborted (70_reset_and_hazards.md
R621, 10_state.md R74). What the host still does and what it last read are the host's and stay. -/
def State.resetCore (s : State) : State :=
  { State.reset with turns := s.turns, readData := s.readData, draws := s.draws }

end Sys2Proof.Machine
end

