-- ==== Sys2Proof/Machine/Bytes.lean ====
section
/-! DEFINITION. Machine/Bytes.lean: integers as byte sequences and limbs (spec/00_scope.md R20, 20_memory.md R133 to R140). -/

namespace Sys2Proof.Machine

/-! ## Sequences of n bytes (00_scope.md R20) -/

/-- `le_int(bs) = Σ bs[i]·256^i`. -/
def leInt : List Byte → Nat
  | [] => 0
  | v :: bs => v.toNat + 256 * leInt bs

/-- `be_int(bs) = Σ bs[i]·256^(n-1-i)`. -/
def beInt (bs : List Byte) : Nat := leInt bs.reverse

/-- `le_bytes_n(v)`: the n-byte sequence whose `le_int` is v, for `0 ≤ v < 256^n`. -/
def leBytes : Nat → Nat → List Byte
  | 0, _ => []
  | n + 1, v => BitVec.ofNat 8 v :: leBytes n (v / 256)

/-- `be_bytes_n(v)`: the n-byte sequence whose `be_int` is v, for `0 ≤ v < 256^n`. -/
def beBytes (n v : Nat) : List Byte := (leBytes n v).reverse

/-! ## ByteCodec helpers (20_memory.md R135 to R138) -/

/-- `u64_to_be8(v)`: `b[i] = v[63-8i:56-8i]` (R135). -/
def u64ToBe8 (v : BitVec 64) : List Byte := (List.range 8).map fun i => v.extractLsb' (56 - 8 * i) 8

/-- `be8_to_u64(b) = Σ b[i]·256^(7-i)` (R136). -/
def be8ToU64 (bs : List Byte) : BitVec 64 := BitVec.ofNat 64 (beInt bs)

/-- `u64_to_le8(v)`: `b[i] = v[8i+7:8i]` (R137). -/
def u64ToLe8 (v : BitVec 64) : List Byte := (List.range 8).map fun i => v.extractLsb' (8 * i) 8

/-- `le8_to_u64(b) = Σ b[i]·256^i` (R138). -/
def le8ToU64 (bs : List Byte) : BitVec 64 := BitVec.ofNat 64 (leInt bs)

/-! ## Limbs (20_memory.md R139, R140) -/

/-- The n 64-bit limbs of an integer, least significant first: `l[i] = v[64i+63:64i]` (R139, R140). -/
def limbs (n v : Nat) : List (BitVec 64) := (List.range n).map fun i => BitVec.ofNat 64 (v >>> (64 * i))

/-- The integer of a list of limbs, least significant first. -/
def ofLimbs : List Nat → Nat
  | [] => 0
  | l :: ls => l + 2 ^ 64 * ofLimbs ls

/-- The 48-byte encoding of an Fp integer by its limbs, most significant limb first: `u64_to_be8(l[5]) ‖ ... ‖ u64_to_be8(l[0])` (R139). -/
def fpLimbBytes (v : Nat) : List Byte := ((limbs 6 v).reverse.map u64ToBe8).flatten

/-- The 32-byte encoding of a scalar by its limbs: `u64_to_le8(l[0]) ‖ ... ‖ u64_to_le8(l[3])` (R140). -/
def scalarLimbBytes (v : Nat) : List Byte := ((limbs 4 v).map u64ToLe8).flatten

end Sys2Proof.Machine
end

