-- ==== Sys2Proof/Machine/Modular.lean ====
section
/-! DEFINITION. Machine/Modular.lean: exact arithmetic on canonical integers modulo m, for Fp (m = p) and the scalar field (m = r)
alike (spec/40_fp.md R237, R239, R257, 42_scalar.md R350), and the exponentiation routine that every field shares. -/

namespace Sys2Proof.Machine

/-! ## Ring operations modulo m -/

/-- `(a + b) mod m` (40_fp.md R245, 42_scalar.md R358). -/
def addMod (m a b : Nat) : Nat := (a + b) % m

/-- `(a - b) mod m`, the least non-negative residue of the integer difference (40_fp.md R246, 42_scalar.md R359). -/
def subMod (m a b : Nat) : Nat := (a + (m - b % m)) % m

/-- `(m - a) mod m` (40_fp.md R247, 42_scalar.md R360). -/
def negMod (m a : Nat) : Nat := (m - a % m) % m

/-- `(a · b) mod m` (40_fp.md R248, 42_scalar.md R361). -/
def mulMod (m a b : Nat) : Nat := a * b % m

/-- `a^2 mod m` (40_fp.md R249, 42_scalar.md R362). -/
def sqrMod (m a : Nat) : Nat := mulMod m a a

/-! ## Exponentiation -/

/-- The loop of `PowVartime`: for i from n-1 down to 0, square, then multiply where `e[i] = 1` (40_fp.md R239). -/
def powLoop {α : Type} (mul : α → α → α) (x : α) (e : Nat) : Nat → α → α
  | 0, res => res
  | i + 1, res => powLoop mul x e i (if e.testBit i then mul (mul res res) x else mul res res)

/-- `PowVartime(x, e, nbits)`, left-to-right square-and-multiply from the field's one (40_fp.md R239). -/
def powVartime {α : Type} (mul : α → α → α) (one x : α) (e nbits : Nat) : α := powLoop mul x e nbits one

/-- `PowVartime` in the integers modulo m. -/
def powMod (m x e nbits : Nat) : Nat := powVartime (mulMod m) 1 x e nbits

/-! ## Fp (40_fp.md) -/

/-- `FP.ADD` as a function (R245). -/
def fpAdd (a b : Nat) : Nat := addMod Config.p a b
/-- `FP.SUB` as a function (R246). -/
def fpSub (a b : Nat) : Nat := subMod Config.p a b
/-- `FP.NEG` as a function (R247). -/
def fpNeg (a : Nat) : Nat := negMod Config.p a
/-- `FP.MUL` as a function (R248). -/
def fpMul (a b : Nat) : Nat := mulMod Config.p a b
/-- `FP.SQR` as a function (R249). -/
def fpSqr (a : Nat) : Nat := sqrMod Config.p a
/-- The inverse of a nonzero element by exponentiation, `PowVartime(a, p-2, 384)` (R250). -/
def fpInv (a : Nat) : Nat := powMod Config.p a (Config.p - 2) 384
/-- The candidate root `PowVartime(a, (p+1)/4, 384)` (R251). -/
def fpRoot (a : Nat) : Nat := powMod Config.p a ((Config.p + 1) / 4) 384
/-- The root of a square, or nothing for a non-residue (R251). -/
def fpSqrt? (a : Nat) : Option Nat := if fpSqr (fpRoot a) = a then some (fpRoot a) else none
/-- Lexicographically largest: `a > (p-1)/2` (R252). -/
def fpLexLargest (a : Nat) : Bool := decide ((Config.p - 1) / 2 < a)
/-- `Σ a_i · b_i mod p` over a list of pairs (R255). -/
def fpSumOfProducts (pairs : List (Nat × Nat)) : Nat := (pairs.map fun q => q.1 * q.2).sum % Config.p

/-! ## Scalar field (42_scalar.md) -/

/-- `SC.ADD` as a function (R358). -/
def scAdd (a b : Nat) : Nat := addMod Config.r a b
/-- `SC.SUB` as a function (R359). -/
def scSub (a b : Nat) : Nat := subMod Config.r a b
/-- `SC.NEG` as a function (R360). -/
def scNeg (a : Nat) : Nat := negMod Config.r a
/-- `SC.MUL` as a function (R361). -/
def scMul (a b : Nat) : Nat := mulMod Config.r a b
/-- `SC.SQR` as a function (R362). -/
def scSqr (a : Nat) : Nat := sqrMod Config.r a
/-- The inverse of a nonzero scalar, `PowVartime(a, r-2, 256)` (R363). -/
def scInv (a : Nat) : Nat := powMod Config.r a (Config.r - 2) 256
/-- `SC.POW` as a function: `PowVartime(a, e, 256)` (R365). -/
def scPow (a e : Nat) : Nat := powMod Config.r a e 256
/-- Euler's criterion as R364 tests it: `PowVartime(a, (r-1)/2, 256) = 1`. -/
def scIsSquare (a : Nat) : Bool := decide (powMod Config.r a ((Config.r - 1) / 2) 256 = 1)

/-- The odd part of r - 1, so that `r - 1 = 2^32 · scOddPart` (r of 00_scope.md R9). -/
def scOddPart : Nat := (Config.r - 1) / 2 ^ 32

/-- The loop of Tonelli–Shanks. At k, `root² = a·t`, the order of t divides `2^k` and c generates the elements of order `2^(k+1)`;
where t has order exactly `2^k`, one factor c mends it. The algorithm is named by 42_scalar.md R364 (§4.3) and its choice of root
does not show, because R364 takes the smaller of the two (notes/assumptions/6.md). -/
def tonelliLoop : Nat → (c t root : Nat) → Nat
  | 0, _, _, root => root
  | k + 1, c, t, root =>
    if powMod Config.r t (2 ^ k) 32 = 1 then tonelliLoop k (scSqr c) t root
    else tonelliLoop k (scSqr c) (scMul t (scSqr c)) (scMul root c)

/-- A square root of a square a modulo r by Tonelli–Shanks (42_scalar.md R364): 5 is a non-residue. -/
def scRoot (a : Nat) : Nat :=
  tonelliLoop 31 (scPow 5 scOddPart) (scPow a scOddPart) (scPow a ((scOddPart + 1) / 2))

/-- `SC.SQRT` as a function: the smaller canonical root, or nothing for a non-residue (42_scalar.md R364). -/
def scSqrt? (a : Nat) : Option Nat :=
  if a = 0 then some 0
  else if scIsSquare a then some (min (scRoot a) (Config.r - scRoot a)) else none

end Sys2Proof.Machine
end

