-- ==== Sys2Proof/Machine/Curve.lean ====
section
/-! DEFINITION. Machine/Curve.lean: the point functions on triples (spec/44_projective.md R471 to R482) and on affine values
(spec/43_affine.md R410 to R414): doubling, the two additions, the conversions, the scalar multiplier, the multiply-by-x chain,
the subgroup check and the batch normalizer's datapath. The formula steps stand in the order of the rules. -/

namespace Sys2Proof.Machine

/-! ## Formulas -/

/-- `Mul3b(t) = (12 · t) mod p` (R471). -/
def mul3b (t : Nat) : Nat := fpMul Config.b3 t

/-- `Double(P)`, the doubling formula of R472; the double of every `Z = 0` triple is the canonical identity. -/
def projDouble (P : Proj) : Proj :=
  let t0 := fpMul P.Y P.Y
  let z3 := fpAdd t0 t0
  let z3 := fpAdd z3 z3
  let z3 := fpAdd z3 z3
  let t1 := fpMul P.Y P.Z
  let t2 := fpMul P.Z P.Z
  let t2 := mul3b t2
  let x3 := fpMul t2 z3
  let y3 := fpAdd t0 t2
  let z3 := fpMul t1 z3
  let t1 := fpAdd t2 t2
  let t2 := fpAdd t1 t2
  let t0 := fpSub t0 t2
  let y3 := fpMul t0 y3
  let y3 := fpAdd x3 y3
  let t1 := fpMul P.X P.Y
  let x3 := fpMul t0 t1
  let x3 := fpAdd x3 x3
  if P.Z = 0 then Proj.identity else ⟨x3, y3, z3⟩

/-- `Add(P, Q)`, the general addition formula of R473, which has no branch. -/
def projAdd (P Q : Proj) : Proj :=
  let t0 := fpMul P.X Q.X
  let t1 := fpMul P.Y Q.Y
  let t2 := fpMul P.Z Q.Z
  let t3 := fpAdd P.X P.Y
  let t4 := fpAdd Q.X Q.Y
  let t3 := fpMul t3 t4
  let t4 := fpAdd t0 t1
  let t3 := fpSub t3 t4
  let t4 := fpAdd P.Y P.Z
  let x3 := fpAdd Q.Y Q.Z
  let t4 := fpMul t4 x3
  let x3 := fpAdd t1 t2
  let t4 := fpSub t4 x3
  let x3 := fpAdd P.X P.Z
  let y3 := fpAdd Q.X Q.Z
  let x3 := fpMul x3 y3
  let y3 := fpAdd t0 t2
  let y3 := fpSub x3 y3
  let x3 := fpAdd t0 t0
  let t0 := fpAdd x3 t0
  let t2 := mul3b t2
  let z3 := fpAdd t1 t2
  let t1 := fpSub t1 t2
  let y3 := mul3b y3
  let x3 := fpMul t4 y3
  let t2 := fpMul t3 t1
  let x3 := fpSub t2 x3
  let y3 := fpMul y3 t0
  let t1 := fpMul t1 z3
  let y3 := fpAdd t1 y3
  let t0 := fpMul t0 t3
  let z3 := fpMul z3 t4
  let z3 := fpAdd z3 t0
  ⟨x3, y3, z3⟩

/-- `AddMixed(P, A)`, the mixed addition formula of R474; the affine identity gives P itself. -/
def projAddMixed (P : Proj) (A : Affine) : Proj :=
  let t0 := fpMul P.X A.x
  let t1 := fpMul P.Y A.y
  let t3 := fpAdd A.x A.y
  let t4 := fpAdd P.X P.Y
  let t3 := fpMul t3 t4
  let t4 := fpAdd t0 t1
  let t3 := fpSub t3 t4
  let t4 := fpMul A.y P.Z
  let t4 := fpAdd t4 P.Y
  let y3 := fpMul A.x P.Z
  let y3 := fpAdd y3 P.X
  let x3 := fpAdd t0 t0
  let t0 := fpAdd x3 t0
  let t2 := mul3b P.Z
  let z3 := fpAdd t1 t2
  let t1 := fpSub t1 t2
  let y3 := mul3b y3
  let x3 := fpMul t4 y3
  let t2 := fpMul t3 t1
  let x3 := fpSub t2 x3
  let y3 := fpMul y3 t0
  let t1 := fpMul t1 z3
  let y3 := fpAdd t1 y3
  let t0 := fpMul t0 t3
  let z3 := fpMul z3 t4
  let z3 := fpAdd z3 t0
  if A.inf then P else ⟨x3, y3, z3⟩

/-- `ProjNeg((X, Y, Z)) = (X, (p - Y) mod p, Z)` (R475). -/
def projNeg (P : Proj) : Proj := ⟨P.X, fpNeg P.Y, P.Z⟩

/-! ## Conversions -/

/-- `Promote((x, y, inf)) = (x, y, if inf then 0 else 1)` (R476). -/
def promote (A : Affine) : Proj := ⟨A.x, A.y, if A.inf then 0 else 1⟩

/-- `ToAffine((X, Y, Z))`: the canonical identity for `Z = 0`, else `(X/Z, Y/Z)` (R477). -/
def toAffine (P : Proj) : Affine :=
  if P.Z = 0 then Affine.identity else ⟨fpMul P.X (fpInv P.Z), fpMul P.Y (fpInv P.Z), false⟩

/-! ## Predicates -/

/-- `ProjEq(P, Q)` by cross-multiplication; every `Z = 0` triple equals every other (R478). -/
def projEq (P Q : Proj) : Bool :=
  (decide (P.Z = 0) && decide (Q.Z = 0)) ||
  (decide (P.Z ≠ 0) && decide (Q.Z ≠ 0) && decide (fpMul P.X Q.Z = fpMul Q.X P.Z) && decide (fpMul P.Y Q.Z = fpMul Q.Y P.Z))

/-- `ProjOnCurve((X, Y, Z)) = (Z = 0) or (Y·Y·Z = X·X·X + b·Z·Z·Z)` (R482). -/
def projOnCurve (P : Proj) : Bool :=
  decide (P.Z = 0) ||
  decide (fpMul (fpMul P.Y P.Y) P.Z =
    fpAdd (fpMul (fpMul P.X P.X) P.X) (fpMul (fpMul (fpMul Config.b P.Z) P.Z) P.Z))

/-- `AffOnCurve(A) = A.inf or ((A.y^2 - A.x^3) mod p = b)` (43_affine.md R410). -/
def affOnCurve (A : Affine) : Bool :=
  A.inf || decide (fpSub (fpSqr A.y) (fpMul (fpSqr A.x) A.x) = Config.b)

/-- `AffEq(A, B)` (43_affine.md R413). -/
def affEq (A B : Affine) : Bool :=
  (A.inf && B.inf) || (!A.inf && !B.inf && decide (A.x = B.x) && decide (A.y = B.y))

/-! ## Affine maps -/

/-- `Endo(A) = ((A.x · BETA) mod p, A.y, A.inf)` (43_affine.md R411). -/
def endo (A : Affine) : Affine := ⟨fpMul A.x Config.beta, A.y, A.inf⟩

/-- `AffNeg(A) = (A.x, if A.inf then 1 else (p - A.y) mod p, A.inf)` (43_affine.md R414). -/
def affNeg (A : Affine) : Affine := ⟨A.x, if A.inf then 1 else fpNeg A.y, A.inf⟩

/-! ## Scalar multiplication -/

/-- The loop of `ScalarMul`: for i from n-1 down to 0, double, then add P where `s[i] = 1` (R479). -/
def scalarMulLoop (P : Proj) (s : Nat) : Nat → Proj → Proj
  | 0, acc => acc
  | i + 1, acc => scalarMulLoop P s i (if s.testBit i then projAdd (projDouble acc) P else projDouble acc)

/-- `ScalarMul(P, s)` over bits 254 down to 0 from `(0, 1, 0)` (R479, 90_conflicts.md C5). -/
def scalarMul (P : Proj) (s : Nat) : Proj := scalarMulLoop P s 255 Proj.identity

/-- The loop of `MulByX`, `while xx ≠ 0`, with fuel for the 63 bits of `|x| / 2` (R480). -/
def mulByXLoop : Nat → (xx : Nat) → (tmp xself : Proj) → Proj
  | 0, _, _, xself => xself
  | k + 1, xx, tmp, xself =>
    if xx = 0 then xself
    else
      let tmp := projDouble tmp
      mulByXLoop k (xx >>> 1) tmp (if xx.testBit 0 then projAdd xself tmp else xself)

/-- `MulByX(P)`, `[x]P` for the negative BLS parameter x (R480). -/
def mulByX (P : Proj) : Proj := projNeg (mulByXLoop 64 (Config.xAbs >>> 1) P Proj.identity)

/-- `ClearCofactor(P) = Add(P, ProjNeg(MulByX(P)))` (R481). -/
def clearCofactor (P : Proj) : Proj := projAdd P (projNeg (mulByX P))

/-- `TorsionFree(A) = ProjEq(ProjNeg(MulByX(MulByX(Promote(A)))), Promote(Endo(A)))` (43_affine.md R412). -/
def torsionFree (A : Affine) : Bool := projEq (projNeg (mulByX (mulByX (promote A)))) (promote (endo A))

/-! ## The batch normalizer's datapath: one inversion for a whole batch (44_projective.md R501) -/

/-- Montgomery's trick: walk forward with the product of the nonzero Z seen so far, invert the whole product once at the end, and
walk backward giving each point its own inverse. The second result is the inverse of the product the walk came in with. -/
def batchWalk : List Proj → Nat → List Affine × Nat
  | [], acc => ([], fpInv acc)
  | P :: Ps, acc =>
    if P.Z = 0 then
      let (As, inv) := batchWalk Ps acc
      (Affine.identity :: As, inv)
    else
      let (As, inv) := batchWalk Ps (fpMul acc P.Z)
      let zi := fpMul inv acc
      (⟨fpMul P.X zi, fpMul P.Y zi, false⟩ :: As, fpMul inv P.Z)

/-- The batch by Montgomery's trick; `the architectural result` is `toAffine` of each point (R501). -/
def batchNormalize (Ps : List Proj) : List Affine := (batchWalk Ps 1).1

end Sys2Proof.Machine
end

