-- ==== Sys2Proof/Machine/PointCodec.lean ====
section
/-! DEFINITION. Machine/PointCodec.lean: the 48-byte compressed and the 96-byte uncompressed point encodings and their decoders as
functions on byte sequences (spec/43_affine.md R401, R402, R418 to R426). -/

namespace Sys2Proof.Machine

/-- Byte 0 of a sequence with the given bits set in it. -/
def orFirst (m : Byte) : List Byte → List Byte
  | [] => []
  | v :: bs => (v ||| m) :: bs

/-- Byte 0 of a sequence masked to its five low bits, which drops the three flag bits (R401). -/
def dropFlags : List Byte → List Byte
  | [] => []
  | v :: bs => (v &&& 0x1F) :: bs

/-- The compression flag C, bit 7 of byte 0 (R401). -/
def flagC (bs : List Byte) : Bool := (bs.headD 0).getLsbD 7

/-- The infinity flag I, bit 6 of byte 0 (R401). -/
def flagI (bs : List Byte) : Bool := (bs.headD 0).getLsbD 6

/-- The sort flag S, bit 5 of byte 0 (R401). -/
def flagS (bs : List Byte) : Bool := (bs.headD 0).getLsbD 5

/-- `EncodeCompressed(A)` (R418). -/
def encodeCompressed (A : Affine) : List Byte :=
  let bs := beBytes 48 (if A.inf then 0 else A.x)
  let bs := orFirst 0x80 bs
  let bs := if A.inf then orFirst 0x40 bs else bs
  if !A.inf && fpLexLargest A.y then orFirst 0x20 bs else bs

/-- `EncodeUncompressed(A)` (R419). -/
def encodeUncompressed (A : Affine) : List Byte :=
  let bs := beBytes 48 (if A.inf then 0 else A.x) ++ beBytes 48 (if A.inf then 0 else A.y)
  if A.inf then orFirst 0x40 bs else bs

/-- `(x^3 + b) mod p`, whose square roots are the y coordinates at x (R420). -/
def curveRhs (x : Nat) : Nat := fpAdd (fpMul (fpSqr x) x) Config.b

/-- The root of the two that the sort flag names (R420). -/
def chooseRoot (sort : Bool) (y : Nat) : Nat := if fpLexLargest y != sort then fpNeg y else y

/-- `DecodeCompressedUnchecked(bs)` on 48 bytes; `none` is the rule's `fail` (R420, 90_conflicts.md C3). -/
def decodeCompressedUnchecked (bs : List Byte) : Option Affine :=
  let xv := beInt (dropFlags bs)
  if Config.p ≤ xv then none
  else if flagI bs && flagC bs && !flagS bs && decide (xv = 0) then some Affine.identity
  else
    match fpSqrt? (curveRhs xv) with
    | none => none
    | some y => if !flagI bs && flagC bs then some ⟨xv, chooseRoot (flagS bs) y, false⟩ else none

/-- `DecodeUncompressedUnchecked(bs)` on 96 bytes (R423). -/
def decodeUncompressedUnchecked (bs : List Byte) : Option Affine :=
  let xv := beInt (dropFlags (bs.take 48))
  let yv := beInt (bs.drop 48)
  if Config.p ≤ xv ∨ Config.p ≤ yv then none
  else if flagI bs ∧ ¬(xv = 0 ∧ yv = 0) then none
  else if flagC bs ∨ flagS bs then none
  else if flagI bs then some Affine.identity
  else some ⟨xv, yv, false⟩

/-- What the checked decoders ask of a decoded point: `AffOnCurve(q)` and `TorsionFree(q)` (R422, R425). -/
def validPoint (q : Affine) : Bool := affOnCurve q && torsionFree q

/-- Decode-then-validate (R422, R425): `fail` stays `fail`, and a point that is not valid becomes `fail`. -/
def validated (q : Option Affine) : Option Affine :=
  match q with
  | some A => if validPoint A then some A else none
  | none => none

end Sys2Proof.Machine
end

