-- ==== Sys2Proof/Machine/AffineCommands.lean ====
section
/-! DEFINITION. Machine/AffineCommands.lean: the AffinePoint family (spec/43_affine.md R403 to R425). -/

namespace Sys2Proof.Machine

/-- `A[d] <- (0, 1, true)` (R403). -/
def execPaIdentity (d : AReg) (s : State) : Result := done (s.setA d Affine.identity)

/-- `A[d] <- (GX, GY, false)` (R404). -/
def execPaGen (d : AReg) (s : State) : Result := done (s.setA d ⟨Config.gx, Config.gy, false⟩)

/-- `A[d] <- A[a]` (R405). -/
def execPaMov (d a : AReg) (s : State) : Result := done (s.setA d (s.opA a))

/-- `A[d] <- (F[a], F[b], false)`, with no curve or subgroup check (R406). -/
def execPaSet (d : AReg) (a b : FReg) (s : State) : Result := done (s.setA d ⟨s.opF a, s.opF b, false⟩)

/-- `F[d] <- A[a].x` (R407). -/
def execPaGetx (d : FReg) (a : AReg) (s : State) : Result := done (s.setF d (s.opA a).x)

/-- `F[d] <- A[a].y` (R408). -/
def execPaGety (d : FReg) (a : AReg) (s : State) : Result := done (s.setF d (s.opA a).y)

/-- `FLAG <- A[a].inf` (R409). -/
def execPaIsid (a : AReg) (s : State) : Result := done (s.setFLAG (s.opA a).inf)

/-- `FLAG <- AffOnCurve(A[a])` (R410). -/
def execPaOncurve (a : AReg) (s : State) : Result := done (s.setFLAG (affOnCurve (s.opA a)))

/-- `FLAG <- TorsionFree(A[a])` (R412). -/
def execPaTorsionfree (a : AReg) (s : State) : Result := done (s.setFLAG (torsionFree (s.opA a)))

/-- `FLAG <- AffEq(A[a], A[b])` (R413). -/
def execPaEq (a b : AReg) (s : State) : Result := done (s.setFLAG (affEq (s.opA a) (s.opA b)))

/-- `A[d] <- AffNeg(A[a])` (R414). -/
def execPaNeg (d a : AReg) (s : State) : Result := done (s.setA d (affNeg (s.opA a)))

/-- `A[d] <- Endo(A[a])` (R411). -/
def execPaEndo (d a : AReg) (s : State) : Result := done (s.setA d (endo (s.opA a)))

/-- `A[d] <- ToAffine(P[a])` (R415). -/
def execPaFromproj (d : AReg) (a : PReg) (s : State) : Result := done (s.setA d (toAffine (s.opP a)))

/-- `P[d] <- AddMixed(Promote(A[a]), A[b])` (R416). -/
def execPaAdd (d : PReg) (a b : AReg) (s : State) : Result :=
  done (s.setP d (projAddMixed (promote (s.opA a)) (s.opA b)))

/-- `P[d] <- ScalarMul(Promote(A[a]), S[b])` (R417). -/
def execPaMul (d : PReg) (a : AReg) (b : SReg) (s : State) : Result :=
  done (s.setP d (scalarMul (promote (s.opA a)) (s.opS b)))

/-- `BufWrite(0, EncodeCompressed(A[a]))` (R418). -/
def execPaTocomp (a : AReg) (s : State) : Result := done (s.setBuf (encodeCompressed (s.opA a)))

/-- `BufWrite(0, EncodeUncompressed(A[a]))` (R419). -/
def execPaTouncomp (a : AReg) (s : State) : Result := done (s.setBuf (encodeUncompressed (s.opA a)))

/-- A decoder's last step: `A[d] <- q`, or MALFORMED_ENCODING on `fail` (R421, R422, R424, R425). -/
def storeDecoded (d : AReg) (q : Option Affine) (s : State) : Result :=
  match q with
  | some A => done (s.setA d A)
  | none => raise .malformedEncoding s

/-- The checked compressed decoder: decode, then the curve and subgroup checks (R422). -/
def execPaFromcomp (d : AReg) (s : State) : Result :=
  storeDecoded d (validated (decodeCompressedUnchecked (s.opBuf 48))) s

/-- The unchecked compressed decoder (R421). -/
def execPaFromcompu (d : AReg) (s : State) : Result := storeDecoded d (decodeCompressedUnchecked (s.opBuf 48)) s

/-- The checked uncompressed decoder (R425). -/
def execPaFromuncomp (d : AReg) (s : State) : Result :=
  storeDecoded d (validated (decodeUncompressedUnchecked (s.opBuf 96))) s

/-- The unchecked uncompressed decoder (R424). -/
def execPaFromuncompu (d : AReg) (s : State) : Result := storeDecoded d (decodeUncompressedUnchecked (s.opBuf 96)) s

end Sys2Proof.Machine
end

