-- ==== Sys2Proof/Machine/Extension.lean ====
section
/-! DEFINITION. Machine/Extension.lean: arithmetic of `Fp2 = Fp[u]/(u² + 1)` as functions (spec/41_fp2.md R300 to R319). -/

namespace Sys2Proof.Machine

/-- Zero, `(0, 0)` (R301). -/
def fp2Zero : Fp2 := ⟨0, 0⟩

/-- One, `(1, 0)` (R302). -/
def fp2One : Fp2 := ⟨1, 0⟩

/-- Componentwise sum (R309). -/
def fp2Add (a b : Fp2) : Fp2 := ⟨fpAdd a.c0 b.c0, fpAdd a.c1 b.c1⟩

/-- Componentwise difference (R310). -/
def fp2Sub (a b : Fp2) : Fp2 := ⟨fpSub a.c0 b.c0, fpSub a.c1 b.c1⟩

/-- Componentwise negation (R311). -/
def fp2Neg (a : Fp2) : Fp2 := ⟨fpNeg a.c0, fpNeg a.c1⟩

/-- The product by two sums of products, over `{c0, -c1}·{d0, d1}` and `{c0, c1}·{d1, d0}` (R312). -/
def fp2Mul (a b : Fp2) : Fp2 :=
  ⟨fpSumOfProducts [(a.c0, b.c0), (fpNeg a.c1, b.c1)], fpSumOfProducts [(a.c0, b.c1), (a.c1, b.c0)]⟩

/-- The square by the complex-squaring identity (R313). -/
def fp2Sqr (a : Fp2) : Fp2 :=
  let ta := fpAdd a.c0 a.c1
  let tb := fpSub a.c0 a.c1
  let tc := fpAdd a.c0 a.c0
  ⟨fpMul ta tb, fpMul tc a.c1⟩

/-- The conjugate `(c0, -c1)` (R314). -/
def fp2Conj (a : Fp2) : Fp2 := ⟨a.c0, fpNeg a.c1⟩

/-- The Frobenius map, which equals the conjugate for this tower (R315). -/
def fp2Frob (a : Fp2) : Fp2 := ⟨a.c0, fpNeg a.c1⟩

/-- Multiplication by the non-residue `1 + u` (R316). -/
def fp2MulNr (a : Fp2) : Fp2 := ⟨fpSub a.c0 a.c1, fpAdd a.c0 a.c1⟩

/-- The norm `c0² + c1²` (R317). -/
def fp2Norm (a : Fp2) : Nat := fpAdd (fpSqr a.c0) (fpSqr a.c1)

/-- The inverse by the norm, or nothing where the norm is 0 (R317). -/
def fp2Inv? (a : Fp2) : Option Fp2 :=
  if fp2Norm a = 0 then none
  else some ⟨fpMul a.c0 (fpInv (fp2Norm a)), fpNeg (fpMul a.c1 (fpInv (fp2Norm a)))⟩

/-- `PowVartime` in Fp2 over 384 exponent bits (R318, R319). -/
def fp2Pow (a : Fp2) (e : Nat) : Fp2 := powVartime fp2Mul fp2One a e 384

/-- The candidate root: the two branches of R318 before its final check. -/
def fp2Root (a : Fp2) : Fp2 :=
  let a1 := fp2Pow a ((Config.p - 3) / 4)
  let alpha := fp2Mul (fp2Sqr a1) a
  let x0 := fp2Mul a1 a
  if alpha = ⟨Config.p - 1, 0⟩ then ⟨fpNeg x0.c1, x0.c0⟩
  else fp2Mul (fp2Pow (fp2Add alpha fp2One) ((Config.p - 1) / 2)) x0

/-- The square root, or nothing where the candidate's square is not the operand (R318, 90_conflicts.md C2). -/
def fp2Sqrt? (a : Fp2) : Option Fp2 := if fp2Sqr (fp2Root a) = a then some (fp2Root a) else none

end Sys2Proof.Machine
end

