-- ==== Sys2Proof/Machine/Fp2Commands.lean ====
section
/-! DEFINITION. Machine/Fp2Commands.lean: the ExtensionField family (spec/41_fp2.md R301 to R319). -/

namespace Sys2Proof.Machine

/-- `E[d] <- (0, 0)` (R301). -/
def execFp2Zero (d : EReg) (s : State) : Result := done (s.setE d fp2Zero)

/-- `E[d] <- (1, 0)` (R302). -/
def execFp2One (d : EReg) (s : State) : Result := done (s.setE d fp2One)

/-- `E[d] <- E[a]` (R303). -/
def execFp2Mov (d a : EReg) (s : State) : Result := done (s.setE d (s.opE a))

/-- `E[d] <- (F[a], F[b])` (R304). -/
def execFp2Pack (d : EReg) (a b : FReg) (s : State) : Result := done (s.setE d ⟨s.opF a, s.opF b⟩)

/-- `F[d] <- E[a].c0` (R305). -/
def execFp2C0 (d : FReg) (a : EReg) (s : State) : Result := done (s.setF d (s.opE a).c0)

/-- `F[d] <- E[a].c1` (R306). -/
def execFp2C1 (d : FReg) (a : EReg) (s : State) : Result := done (s.setF d (s.opE a).c1)

/-- `FLAG <- (E[a].c0 = 0 and E[a].c1 = 0)` (R307). -/
def execFp2Iszero (a : EReg) (s : State) : Result :=
  done (s.setFLAG (decide ((s.opE a).c0 = 0) && decide ((s.opE a).c1 = 0)))

/-- `FLAG <- (E[a].c0 = E[b].c0 and E[a].c1 = E[b].c1)` (R308). -/
def execFp2Eq (a b : EReg) (s : State) : Result :=
  done (s.setFLAG (decide ((s.opE a).c0 = (s.opE b).c0) && decide ((s.opE a).c1 = (s.opE b).c1)))

/-- `E[d] <- E[a] + E[b]`, componentwise (R309). -/
def execFp2Add (d a b : EReg) (s : State) : Result := done (s.setE d (fp2Add (s.opE a) (s.opE b)))

/-- `E[d] <- E[a] - E[b]`, componentwise (R310). -/
def execFp2Sub (d a b : EReg) (s : State) : Result := done (s.setE d (fp2Sub (s.opE a) (s.opE b)))

/-- `E[d] <- -E[a]`, componentwise (R311). -/
def execFp2Neg (d a : EReg) (s : State) : Result := done (s.setE d (fp2Neg (s.opE a)))

/-- `E[d] <- E[a] · E[b]` by two sums of products (R312). -/
def execFp2Mul (d a b : EReg) (s : State) : Result := done (s.setE d (fp2Mul (s.opE a) (s.opE b)))

/-- `E[d] <- E[a]^2` (R313). -/
def execFp2Sqr (d a : EReg) (s : State) : Result := done (s.setE d (fp2Sqr (s.opE a)))

/-- `E[d] <- (E[a].c0, -E[a].c1)` (R314). -/
def execFp2Conj (d a : EReg) (s : State) : Result := done (s.setE d (fp2Conj (s.opE a)))

/-- `E[d] <- (E[a].c0, -E[a].c1)`, the Frobenius map of this tower (R315). -/
def execFp2Frob (d a : EReg) (s : State) : Result := done (s.setE d (fp2Frob (s.opE a)))

/-- `E[d] <- E[a] · (1 + u)` (R316). -/
def execFp2Mulnr (d a : EReg) (s : State) : Result := done (s.setE d (fp2MulNr (s.opE a)))

/-- `E[d] <- E[a]^-1` by the norm; NOT_INVERTIBLE when the norm is 0 (R317). -/
def execFp2Inv (d a : EReg) (s : State) : Result :=
  match fp2Inv? (s.opE a) with
  | some v => done (s.setE d v)
  | none => raise .notInvertible s

/-- `E[d] <- ` a square root of `E[a]`; NOT_A_SQUARE when the candidate's square is not `E[a]` (R318). -/
def execFp2Sqrt (d a : EReg) (s : State) : Result :=
  match fp2Sqrt? (s.opE a) with
  | some v => done (s.setE d v)
  | none => raise .notASquare s

/-- `E[d] <- PowVartime(E[a], F[b], 384)` (R319). -/
def execFp2Pow (d a : EReg) (b : FReg) (s : State) : Result := done (s.setE d (fp2Pow (s.opE a) (s.opF b)))

end Sys2Proof.Machine
end

