-- ==== Sys2Proof/Machine/FpCommands.lean ====
section
/-! DEFINITION. Machine/FpCommands.lean: the BaseField family (spec/40_fp.md R240 to R255). -/

namespace Sys2Proof.Machine

/-- `F[d] <- 0` (R240). -/
def execFpZero (d : FReg) (s : State) : Result := done (s.setF d 0)

/-- `F[d] <- 1` (R241). -/
def execFpOne (d : FReg) (s : State) : Result := done (s.setF d 1)

/-- `F[d] <- F[a]` (R242). -/
def execFpMov (d a : FReg) (s : State) : Result := done (s.setF d (s.opF a))

/-- `FLAG <- (F[a] = 0)` (R243). -/
def execFpIszero (a : FReg) (s : State) : Result := done (s.setFLAG (decide (s.opF a = 0)))

/-- `FLAG <- (F[a] = F[b])` (R244). -/
def execFpEq (a b : FReg) (s : State) : Result := done (s.setFLAG (decide (s.opF a = s.opF b)))

/-- `F[d] <- (F[a] + F[b]) mod p` (R245). -/
def execFpAdd (d a b : FReg) (s : State) : Result := done (s.setF d (fpAdd (s.opF a) (s.opF b)))

/-- `F[d] <- (F[a] - F[b]) mod p` (R246). -/
def execFpSub (d a b : FReg) (s : State) : Result := done (s.setF d (fpSub (s.opF a) (s.opF b)))

/-- `F[d] <- (p - F[a]) mod p` (R247). -/
def execFpNeg (d a : FReg) (s : State) : Result := done (s.setF d (fpNeg (s.opF a)))

/-- `F[d] <- (F[a] · F[b]) mod p` (R248). -/
def execFpMul (d a b : FReg) (s : State) : Result := done (s.setF d (fpMul (s.opF a) (s.opF b)))

/-- `F[d] <- F[a]^2 mod p` (R249). -/
def execFpSqr (d a : FReg) (s : State) : Result := done (s.setF d (fpSqr (s.opF a)))

/-- `F[d] <- F[a]^-1`; NOT_INVERTIBLE exactly when `F[a] = 0` (R250). -/
def execFpInv (d a : FReg) (s : State) : Result :=
  if s.opF a = 0 then raise .notInvertible s else done (s.setF d (fpInv (s.opF a)))

/-- `F[d] <- F[a]^((p+1)/4)`; NOT_A_SQUARE when its square is not `F[a]` (R251). -/
def execFpSqrt (d a : FReg) (s : State) : Result :=
  match fpSqrt? (s.opF a) with
  | some v => done (s.setF d v)
  | none => raise .notASquare s

/-- `FLAG <- (F[a] > (p-1)/2)` (R252). -/
def execFpLexl (a : FReg) (s : State) : Result := done (s.setFLAG (fpLexLargest (s.opF a)))

/-- `BufWrite(0, be_bytes_48(F[a]))` (R253). -/
def execFpTobytes (a : FReg) (s : State) : Result := done (s.setBuf (beBytes 48 (s.opF a)))

/-- `F[d] <- be_int(BufRead(0, 48))`; MALFORMED_ENCODING when that is p or more (R254). -/
def execFpFrombytes (d : FReg) (s : State) : Result :=
  if Config.p ≤ beInt (s.opBuf 48) then raise .malformedEncoding s else done (s.setF d (beInt (s.opBuf 48)))

/-- `F[d] <- Σ F[a+i] · F[b+i] mod p` over n pairs; a count outside its range is ILLEGAL_COMMAND (R255). -/
def execFpSop (d a b : FReg) (n : Count) (s : State) : Result :=
  if sopCountOk a b n then done (s.setF d (fpSumOfProducts ((s.rangeF a n).zip (s.rangeF b n))))
  else raise .illegalCommand s

end Sys2Proof.Machine
end

