-- ==== Sys2Proof/Machine/ProjectiveCommands.lean ====
section
/-! DEFINITION. Machine/ProjectiveCommands.lean: the ProjectivePoint family (spec/44_projective.md R483 to R501). -/

namespace Sys2Proof.Machine

/-- `P[d] <- (0, 1, 0)` (R483). -/
def execPpIdentity (d : PReg) (s : State) : Result := done (s.setP d Proj.identity)

/-- `P[d] <- (GX, GY, 1)` (R484). -/
def execPpGen (d : PReg) (s : State) : Result := done (s.setP d ⟨Config.gx, Config.gy, 1⟩)

/-- `P[d] <- P[a]`, the exact triple (R485). -/
def execPpMov (d a : PReg) (s : State) : Result := done (s.setP d (s.opP a))

/-- `P[d] <- (F[a], F[b], F[c])`, with no check (R486). -/
def execPpSet (d : PReg) (a b c : FReg) (s : State) : Result := done (s.setP d ⟨s.opF a, s.opF b, s.opF c⟩)

/-- `F[d] <- P[a].X` (R487). -/
def execPpGetx (d : FReg) (a : PReg) (s : State) : Result := done (s.setF d (s.opP a).X)

/-- `F[d] <- P[a].Y` (R488). -/
def execPpGety (d : FReg) (a : PReg) (s : State) : Result := done (s.setF d (s.opP a).Y)

/-- `F[d] <- P[a].Z` (R489). -/
def execPpGetz (d : FReg) (a : PReg) (s : State) : Result := done (s.setF d (s.opP a).Z)

/-- `P[d] <- Promote(A[a])` (R490). -/
def execPpFromaff (d : PReg) (a : AReg) (s : State) : Result := done (s.setP d (promote (s.opA a)))

/-- `FLAG <- (P[a].Z = 0)` (R491). -/
def execPpIsid (a : PReg) (s : State) : Result := done (s.setFLAG (decide ((s.opP a).Z = 0)))

/-- `FLAG <- ProjOnCurve(P[a])` (R492). -/
def execPpOncurve (a : PReg) (s : State) : Result := done (s.setFLAG (projOnCurve (s.opP a)))

/-- `FLAG <- ProjEq(P[a], P[b])` (R493). -/
def execPpEq (a b : PReg) (s : State) : Result := done (s.setFLAG (projEq (s.opP a) (s.opP b)))

/-- `P[d] <- ProjNeg(P[a])` (R494). -/
def execPpNeg (d a : PReg) (s : State) : Result := done (s.setP d (projNeg (s.opP a)))

/-- `P[d] <- Double(P[a])` (R495). -/
def execPpDbl (d a : PReg) (s : State) : Result := done (s.setP d (projDouble (s.opP a)))

/-- `P[d] <- Add(P[a], P[b])` (R496). -/
def execPpAdd (d a b : PReg) (s : State) : Result := done (s.setP d (projAdd (s.opP a) (s.opP b)))

/-- `P[d] <- Add(P[a], ProjNeg(P[b]))` (R497). -/
def execPpSub (d a b : PReg) (s : State) : Result := done (s.setP d (projAdd (s.opP a) (projNeg (s.opP b))))

/-- `P[d] <- AddMixed(P[a], A[b])` (R498). -/
def execPpAddm (d a : PReg) (b : AReg) (s : State) : Result := done (s.setP d (projAddMixed (s.opP a) (s.opA b)))

/-- `P[d] <- ScalarMul(P[a], S[b])` (R499). -/
def execPpMul (d a : PReg) (b : SReg) (s : State) : Result := done (s.setP d (scalarMul (s.opP a) (s.opS b)))

/-- `P[d] <- ClearCofactor(P[a])` (R500). -/
def execPpClearcof (d a : PReg) (s : State) : Result := done (s.setP d (clearCofactor (s.opP a)))

/-- `A[d+i] <- ToAffine(P[a+i])` for n points, all read first; a count outside its range is ILLEGAL_COMMAND (R501). -/
def execPpBatchnorm (d : AReg) (a : PReg) (n : Count) (s : State) : Result :=
  if batchCountOk d a n then done (s.setRangeA d ((s.rangeP a n).map toAffine)) else raise .illegalCommand s

end Sys2Proof.Machine
end

