-- ==== Sys2Proof/Machine/ScalarCommands.lean ====
section
/-! DEFINITION. Machine/ScalarCommands.lean: the ScalarField family (spec/42_scalar.md R353 to R368). -/

namespace Sys2Proof.Machine

/-- `S[d] <- 0` (R353). -/
def execScZero (d : SReg) (s : State) : Result := done (s.setS d 0)

/-- `S[d] <- 1` (R354). -/
def execScOne (d : SReg) (s : State) : Result := done (s.setS d 1)

/-- `S[d] <- S[a]` (R355). -/
def execScMov (d a : SReg) (s : State) : Result := done (s.setS d (s.opS a))

/-- `FLAG <- (S[a] = 0)` (R356). -/
def execScIszero (a : SReg) (s : State) : Result := done (s.setFLAG (decide (s.opS a = 0)))

/-- `FLAG <- (S[a] = S[b])` (R357). -/
def execScEq (a b : SReg) (s : State) : Result := done (s.setFLAG (decide (s.opS a = s.opS b)))

/-- `S[d] <- (S[a] + S[b]) mod r` (R358). -/
def execScAdd (d a b : SReg) (s : State) : Result := done (s.setS d (scAdd (s.opS a) (s.opS b)))

/-- `S[d] <- (S[a] - S[b]) mod r` (R359). -/
def execScSub (d a b : SReg) (s : State) : Result := done (s.setS d (scSub (s.opS a) (s.opS b)))

/-- `S[d] <- (r - S[a]) mod r` (R360). -/
def execScNeg (d a : SReg) (s : State) : Result := done (s.setS d (scNeg (s.opS a)))

/-- `S[d] <- (S[a] · S[b]) mod r` (R361). -/
def execScMul (d a b : SReg) (s : State) : Result := done (s.setS d (scMul (s.opS a) (s.opS b)))

/-- `S[d] <- S[a]^2 mod r` (R362). -/
def execScSqr (d a : SReg) (s : State) : Result := done (s.setS d (scSqr (s.opS a)))

/-- `S[d] <- S[a]^-1`; NOT_INVERTIBLE exactly when `S[a] = 0` (R363). -/
def execScInv (d a : SReg) (s : State) : Result :=
  if s.opS a = 0 then raise .notInvertible s else done (s.setS d (scInv (s.opS a)))

/-- `S[d] <- ` the smaller square root of `S[a]`; NOT_A_SQUARE for a non-residue (R364). -/
def execScSqrt (d a : SReg) (s : State) : Result :=
  match scSqrt? (s.opS a) with
  | some v => done (s.setS d v)
  | none => raise .notASquare s

/-- `S[d] <- PowVartime(S[a], S[b], 256)` (R365). -/
def execScPow (d a b : SReg) (s : State) : Result := done (s.setS d (scPow (s.opS a) (s.opS b)))

/-- `BufWrite(0, le_bytes_32(S[a]))` (R366). -/
def execScTobytes (a : SReg) (s : State) : Result := done (s.setBuf (leBytes 32 (s.opS a)))

/-- `S[d] <- le_int(BufRead(0, 32))`; MALFORMED_ENCODING when that is r or more (R367). -/
def execScFrombytes (d : SReg) (s : State) : Result :=
  if Config.r ≤ leInt (s.opBuf 32) then raise .malformedEncoding s else done (s.setS d (leInt (s.opBuf 32)))

/-- `S[d] <- le_int(BufRead(0, 64)) mod r` (R368). -/
def execScFromwide (d : SReg) (s : State) : Result := done (s.setS d (leInt (s.opBuf 64) % Config.r))

end Sys2Proof.Machine
end

