-- ==== Sys2Proof/Machine/System.lean ====
section
/-! DEFINITION. Machine/System.lean: the system family (spec/45_system.md). -/

namespace Sys2Proof.Machine

/-- `NOP`: no register, BUF or FLAG write; ERR becomes 0 like after every completed command (R540). -/
def execNop (s : State) : Result := done s

end Sys2Proof.Machine
end

