-- ==== Sys2Proof/Machine/Dispatch.lean ====
section
/-! DEFINITION. Dispatch.lean: `run(r, operands)` of 60_exceptions.md R571, one arm per command. -/

namespace Sys2Proof.Machine

/-- What a decoded command does to the state (60_exceptions.md R571). -/
def exec (i : Instr) (s : State) : Host.Outcome State Fault Refusal :=
  match i with
  | .nop => Sys2Proof.Machine.execNop s
  | .fpZero d => Sys2Proof.Machine.execFpZero d s
  | .fpOne d => Sys2Proof.Machine.execFpOne d s
  | .fpMov d a => Sys2Proof.Machine.execFpMov d a s
  | .fpIszero a => Sys2Proof.Machine.execFpIszero a s
  | .fpEq a b => Sys2Proof.Machine.execFpEq a b s
  | .fpAdd d a b => Sys2Proof.Machine.execFpAdd d a b s
  | .fpSub d a b => Sys2Proof.Machine.execFpSub d a b s
  | .fpNeg d a => Sys2Proof.Machine.execFpNeg d a s
  | .fpMul d a b => Sys2Proof.Machine.execFpMul d a b s
  | .fpSqr d a => Sys2Proof.Machine.execFpSqr d a s
  | .fpInv d a => Sys2Proof.Machine.execFpInv d a s
  | .fpSqrt d a => Sys2Proof.Machine.execFpSqrt d a s
  | .fpLexl a => Sys2Proof.Machine.execFpLexl a s
  | .fpTobytes a => Sys2Proof.Machine.execFpTobytes a s
  | .fpFrombytes d => Sys2Proof.Machine.execFpFrombytes d s
  | .fpSop d a b n => Sys2Proof.Machine.execFpSop d a b n s
  | .fp2Zero d => Sys2Proof.Machine.execFp2Zero d s
  | .fp2One d => Sys2Proof.Machine.execFp2One d s
  | .fp2Mov d a => Sys2Proof.Machine.execFp2Mov d a s
  | .fp2Pack d a b => Sys2Proof.Machine.execFp2Pack d a b s
  | .fp2C0 d a => Sys2Proof.Machine.execFp2C0 d a s
  | .fp2C1 d a => Sys2Proof.Machine.execFp2C1 d a s
  | .fp2Iszero a => Sys2Proof.Machine.execFp2Iszero a s
  | .fp2Eq a b => Sys2Proof.Machine.execFp2Eq a b s
  | .fp2Add d a b => Sys2Proof.Machine.execFp2Add d a b s
  | .fp2Sub d a b => Sys2Proof.Machine.execFp2Sub d a b s
  | .fp2Neg d a => Sys2Proof.Machine.execFp2Neg d a s
  | .fp2Mul d a b => Sys2Proof.Machine.execFp2Mul d a b s
  | .fp2Sqr d a => Sys2Proof.Machine.execFp2Sqr d a s
  | .fp2Conj d a => Sys2Proof.Machine.execFp2Conj d a s
  | .fp2Frob d a => Sys2Proof.Machine.execFp2Frob d a s
  | .fp2Mulnr d a => Sys2Proof.Machine.execFp2Mulnr d a s
  | .fp2Inv d a => Sys2Proof.Machine.execFp2Inv d a s
  | .fp2Sqrt d a => Sys2Proof.Machine.execFp2Sqrt d a s
  | .fp2Pow d a b => Sys2Proof.Machine.execFp2Pow d a b s
  | .scZero d => Sys2Proof.Machine.execScZero d s
  | .scOne d => Sys2Proof.Machine.execScOne d s
  | .scMov d a => Sys2Proof.Machine.execScMov d a s
  | .scIszero a => Sys2Proof.Machine.execScIszero a s
  | .scEq a b => Sys2Proof.Machine.execScEq a b s
  | .scAdd d a b => Sys2Proof.Machine.execScAdd d a b s
  | .scSub d a b => Sys2Proof.Machine.execScSub d a b s
  | .scNeg d a => Sys2Proof.Machine.execScNeg d a s
  | .scMul d a b => Sys2Proof.Machine.execScMul d a b s
  | .scSqr d a => Sys2Proof.Machine.execScSqr d a s
  | .scInv d a => Sys2Proof.Machine.execScInv d a s
  | .scSqrt d a => Sys2Proof.Machine.execScSqrt d a s
  | .scPow d a b => Sys2Proof.Machine.execScPow d a b s
  | .scTobytes a => Sys2Proof.Machine.execScTobytes a s
  | .scFrombytes d => Sys2Proof.Machine.execScFrombytes d s
  | .scFromwide d => Sys2Proof.Machine.execScFromwide d s
  | .paIdentity d => Sys2Proof.Machine.execPaIdentity d s
  | .paGen d => Sys2Proof.Machine.execPaGen d s
  | .paMov d a => Sys2Proof.Machine.execPaMov d a s
  | .paSet d a b => Sys2Proof.Machine.execPaSet d a b s
  | .paGetx d a => Sys2Proof.Machine.execPaGetx d a s
  | .paGety d a => Sys2Proof.Machine.execPaGety d a s
  | .paIsid a => Sys2Proof.Machine.execPaIsid a s
  | .paOncurve a => Sys2Proof.Machine.execPaOncurve a s
  | .paTorsionfree a => Sys2Proof.Machine.execPaTorsionfree a s
  | .paEq a b => Sys2Proof.Machine.execPaEq a b s
  | .paNeg d a => Sys2Proof.Machine.execPaNeg d a s
  | .paEndo d a => Sys2Proof.Machine.execPaEndo d a s
  | .paFromproj d a => Sys2Proof.Machine.execPaFromproj d a s
  | .paAdd d a b => Sys2Proof.Machine.execPaAdd d a b s
  | .paMul d a b => Sys2Proof.Machine.execPaMul d a b s
  | .paTocomp a => Sys2Proof.Machine.execPaTocomp a s
  | .paTouncomp a => Sys2Proof.Machine.execPaTouncomp a s
  | .paFromcomp d => Sys2Proof.Machine.execPaFromcomp d s
  | .paFromcompu d => Sys2Proof.Machine.execPaFromcompu d s
  | .paFromuncomp d => Sys2Proof.Machine.execPaFromuncomp d s
  | .paFromuncompu d => Sys2Proof.Machine.execPaFromuncompu d s
  | .ppIdentity d => Sys2Proof.Machine.execPpIdentity d s
  | .ppGen d => Sys2Proof.Machine.execPpGen d s
  | .ppMov d a => Sys2Proof.Machine.execPpMov d a s
  | .ppSet d a b c => Sys2Proof.Machine.execPpSet d a b c s
  | .ppGetx d a => Sys2Proof.Machine.execPpGetx d a s
  | .ppGety d a => Sys2Proof.Machine.execPpGety d a s
  | .ppGetz d a => Sys2Proof.Machine.execPpGetz d a s
  | .ppFromaff d a => Sys2Proof.Machine.execPpFromaff d a s
  | .ppIsid a => Sys2Proof.Machine.execPpIsid a s
  | .ppOncurve a => Sys2Proof.Machine.execPpOncurve a s
  | .ppEq a b => Sys2Proof.Machine.execPpEq a b s
  | .ppNeg d a => Sys2Proof.Machine.execPpNeg d a s
  | .ppDbl d a => Sys2Proof.Machine.execPpDbl d a s
  | .ppAdd d a b => Sys2Proof.Machine.execPpAdd d a b s
  | .ppSub d a b => Sys2Proof.Machine.execPpSub d a b s
  | .ppAddm d a b => Sys2Proof.Machine.execPpAddm d a b s
  | .ppMul d a b => Sys2Proof.Machine.execPpMul d a b s
  | .ppClearcof d a => Sys2Proof.Machine.execPpClearcof d a s
  | .ppBatchnorm d a n => Sys2Proof.Machine.execPpBatchnorm d a n s

end Sys2Proof.Machine
end

