-- ==== Sys2Proof/Machine/Window.lean ====
section
/-! DEFINITION. Machine/Window.lean: the host register window (spec/20_memory.md R120 to R131): where an offset leads, and what a
host read or write does. -/

namespace Sys2Proof.Machine

/-- The size of the window in bytes (20_memory.md R120). -/
def windowSize : Nat := 0x200

/-- The offset in the window that a physical address of the host names, if any: the window starts at the platform's open
parameter `G1CORE_BASE` (20_memory.md R120). -/
def offsetAt? (phys : Nat) : Option Offset :=
  if Config.g1coreBase ≤ phys ∧ phys < Config.g1coreBase + windowSize then
    some (BitVec.ofNat 9 (phys - Config.g1coreBase))
  else none

/-- What stands at an offset of the window (20_memory.md R121). -/
inductive Place where
  | id
  | version
  | cmd
  | status
  | ctrl
  | bufWord (k : Nat)
  | reserved
  deriving DecidableEq, Repr

/-- The register map (20_memory.md R121). -/
def placeAt (addr : Offset) : Place :=
  let n := addr.toNat
  if n = 0x000 then .id
  else if n = 0x004 then .version
  else if n = 0x008 then .cmd
  else if n = 0x00C then .status
  else if n = 0x010 then .ctrl
  else if 0x100 ≤ n ∧ n < 0x160 then .bufWord ((n - 0x100) / 4)
  else .reserved

/-- The only admitted accesses are 32 bits wide at offsets that are multiples of 4 (20_memory.md R122). -/
def admitted (addr : Offset) (bytes : Nat) : Bool := decide (bytes = 4) && decide (addr.toNat % 4 = 0)

/-- `word_k = BUF[4k] | BUF[4k+1] << 8 | BUF[4k+2] << 16 | BUF[4k+3] << 24` (20_memory.md R125). -/
def bufWord (m : Memory) (k : Nat) : Word :=
  bufByte m (4 * k + 3) ++ bufByte m (4 * k + 2) ++ bufByte m (4 * k + 1) ++ bufByte m (4 * k)

/-- The bytes `v[8j+7:8j]` for j = 0..3 (20_memory.md R126). -/
def wordBytes (v : Word) : List Byte :=
  [v.extractLsb' 0 8, v.extractLsb' 8 8, v.extractLsb' 16 8, v.extractLsb' 24 8]

/-- The value returned for a host read, at the host's side of the bus. -/
def State.respond (s : State) (v : Word) : State := { s with readData := v }

/-- A read of a BUF word while BUSY: the next free value, and one more of them drawn (20_memory.md R127). -/
def State.respondFree (s : State) : State :=
  { s with readData := Config.busyBufRead s.draws, draws := s.draws + 1 }

/-- An admitted host read of what stands at a place (20_memory.md R121, R124, R127, R129, R131). -/
def State.readPlace (s : State) : Place → State
  | .id => s.respond Config.idWord
  | .version => s.respond Config.versionWord
  | .cmd => s.respond s.CMD
  | .status => s.respond s.statusWord
  | .ctrl => s.respond 0
  | .bufWord k => if s.BUSY then s.respondFree else s.respond (bufWord s.files.BUF k)
  | .reserved => s.respond 0

/-- A host write of CMD: the command is accepted, or dropped while BUSY with HOST_OVERRUN (20_memory.md R128). -/
def State.writeCMD (s : State) (w : Word) : State := if s.BUSY then s.overrun else s.capture w

/-- A host write of CTRL acts at once, BUSY or not: bit 0 SOFT_RESET, which subsumes bit 1 CLEAR_STICKY; other bits are ignored
(10_state.md R69, 20_memory.md R130). -/
def State.writeCTRL (s : State) (v : Word) : State :=
  if v.getLsbD 0 then s.resetCore else if v.getLsbD 1 then s.clearSticky else s

/-- A host write of BUF word k: the four bytes are stored, or dropped while BUSY with HOST_OVERRUN (20_memory.md R126). -/
def State.writeBufWord (s : State) (k : Nat) (v : Word) : State :=
  if s.BUSY then s.overrun
  else { s with files := { s.files with BUF := bufWrite s.files.BUF (4 * k) (wordBytes v) } }

/-- An admitted host write to what stands at a place (20_memory.md R121, R124). -/
def State.writePlace (s : State) (v : Word) : Place → State
  | .cmd => s.writeCMD v
  | .ctrl => s.writeCTRL v
  | .bufWord k => s.writeBufWord k v
  | .id => s
  | .version => s
  | .status => s
  | .reserved => s

/-- One host access, which takes effect completely before the next; an access that is not admitted is ignored, and such a
read returns 0 (20_memory.md R122, R123, R143). -/
def State.access (s : State) : HostAccess → State
  | .read addr bytes => if admitted addr bytes then s.readPlace (placeAt addr) else s.respond 0
  | .write addr bytes v => if admitted addr bytes then s.writePlace v (placeAt addr) else s

end Sys2Proof.Machine
end

