-- ==== Sys2Proof/Machine/Turns.lean ====
section
/-! DEFINITION. Machine/Turns.lean: what happens in one step: a host access, the completion of the in-flight command, or the reset
input, in the order of the state's turns (spec/20_memory.md R143, 60_exceptions.md R571, 70_reset_and_hazards.md R620, R631). -/

namespace Sys2Proof.Machine

/-- `complete(w, operands)` for an accepted word: an illegal word completes with ILLEGAL_COMMAND, any other runs (60_exceptions.md R571). -/
def runWord (w : Word) (s : State) : Result :=
  match decode w with
  | .ok i => exec i s
  | .error _ => raise .illegalCommand s

/-- The core's turn: the in-flight command completes; an idle core keeps its state (60_exceptions.md R571, R588). -/
def coreTurn (s : State) : Result :=
  match s.PENDING with
  | some q => runWord q.word s
  | none => .next s

/-- One step. With no turn listed the core still completes its command: every accepted command completes (70_reset_and_hazards.md R631). -/
def takeTurn (s : State) : Result :=
  match s.turns with
  | [] => coreTurn s
  | .core :: rest => coreTurn { s with turns := rest }
  | .host a :: rest => .next ({ s with turns := rest }.access a)
  | .powerOnReset :: rest => .next ({ s with turns := rest }.resetCore)

/-- The turns in which the core moves first. -/
def coreFirst : List Turn → List Turn
  | [] => []
  | t :: rest => .core :: t :: rest

/-- The state in which the word w has just been accepted and completes in the next step. -/
def State.withCommand (s : State) (w : Word) : State := { s.capture w with turns := coreFirst s.turns }

end Sys2Proof.Machine
end

