-- ==== Sys2Proof/Machine/Step.lean ====
section
/-! DEFINITION. Machine/Step.lean: the step function and the placing of a command. The core fetches nothing (spec/20_memory.md
R147): the next command to run is the one PENDING holds, so that is where `withFetchWord` puts it (notes/assumptions/7.md). -/

namespace Sys2Proof.Machine

/-- One step of the machine. -/
def step (s : State) : Host.Outcome State Fault Refusal := Sys2Proof.Machine.takeTurn s

/-- s with the opcode-table word w (nbits bits, every bit above them 0) accepted as the in-flight command. -/
def State.withFetchWord (s : State) (nbits w : Nat) : State :=
  Sys2Proof.Machine.State.withCommand s (BitVec.ofNat 32 (w % 2 ^ nbits))

end Sys2Proof.Machine
end

