-- ==== Sys2Proof/Machine/Assembler.lean ====
section
/-! DEFINITION. Machine/Assembler.lean: the assembly syntax of spec/30_encoding.md R187, the assembler's rejections of R188 and the
pseudo-instructions of R189. Host-side text only: no step of the machine reads it. -/

namespace Sys2Proof.Machine

/-- An operand of an assembly line: a register, written as its file's letter and a decimal index, or a count `#n` (30_encoding.md R187). -/
inductive AsmOperand where
  | reg (file : RegFile) (index : Nat)
  | count (n : Nat)
  deriving DecidableEq, Repr

/-- An assembly line: a mnemonic in lower case and its operands in the order d, a, b, c (30_encoding.md R187). -/
structure AsmLine where
  mnemonic : List Char
  operands : List AsmOperand
  deriving DecidableEq, Repr

/-- Why the assembler rejects a line (30_encoding.md R188). -/
inductive AsmError where
  | notALine
  | unknownMnemonic
  | wrongFile
  | wrongOperands
  | indexOutOfRange
  | badCount
  | illegal (reason : IllegalReason)
  deriving DecidableEq, Repr

/-- The letter of a register file (30_encoding.md R187). -/
def fileLetter : RegFile → Char
  | .F => 'f'
  | .E => 'e'
  | .S => 's'
  | .A => 'a'
  | .P => 'p'

/-- The register file of a letter. -/
def fileOfLetter? (ch : Char) : Option RegFile := [RegFile.F, .E, .S, .A, .P].find? fun f => fileLetter f == ch

/-- The mnemonic of a row in lower case (30_encoding.md R187). -/
def asmName (row : OpcodeRow) : List Char := row.mnemonic.toList.map Char.toLower

/-- The pseudo-instructions, each expanding to one command (30_encoding.md R189). -/
def expandPseudo (l : AsmLine) : AsmLine :=
  match l.operands with
  | [d, a] =>
    if l.mnemonic = "fp.dbl".toList then ⟨"fp.add".toList, [d, a, a]⟩
    else if l.mnemonic = "fp2.dbl".toList then ⟨"fp2.add".toList, [d, a, a]⟩
    else if l.mnemonic = "sc.dbl".toList then ⟨"sc.add".toList, [d, a, a]⟩
    else l
  | [d] =>
    if l.mnemonic = "pp.inf".toList then ⟨"pp.identity".toList, [d]⟩
    else if l.mnemonic = "pa.inf".toList then ⟨"pa.identity".toList, [d]⟩
    else l
  | _ => l

/-- One field of the word from the next operand, as the row's column asks; an unused field takes no operand (30_encoding.md R187, R188). -/
def takeField : OperandKind → List AsmOperand → Except AsmError (BitVec 4 × List AsmOperand)
  | .unused, ops => .ok (0, ops)
  | .reg f, .reg g i :: ops =>
    if f ≠ g then .error .wrongFile else if i < 16 then .ok (field4 i, ops) else .error .indexOutOfRange
  | .count, .count n :: ops => if n < 16 then .ok (field4 n, ops) else .error .badCount
  | _, _ => .error .wrongOperands

/-- The word of a line for a given row; what the decoder would find illegal is rejected (30_encoding.md R185, R188). -/
def assembleRow (row : OpcodeRow) (ops : List AsmOperand) : Except AsmError Word := do
  let (d, ops) ← takeField row.d ops
  let (a, ops) ← takeField row.a ops
  let (b, ops) ← takeField row.b ops
  let (c, ops) ← takeField row.c ops
  if ops ≠ [] then .error .wrongOperands
  else
    let w := pack ⟨BitVec.ofNat 8 row.op, d, a, b, c, 0⟩
    match decode w with
    | .ok _ => .ok w
    | .error e => .error (.illegal e)

/-- The assembler on a line (30_encoding.md R187 to R189). -/
def assemble (l : AsmLine) : Except AsmError Word :=
  let l := expandPseudo l
  match opcodeTable.find? (fun row => asmName row == l.mnemonic) with
  | some row => assembleRow row l.operands
  | none => .error .unknownMnemonic

/-- The operand a field of a word stands for, if its row uses the field. -/
def operandOf : OperandKind → BitVec 4 → List AsmOperand
  | .unused, _ => []
  | .reg f, v => [.reg f v.toNat]
  | .count, v => [.count v.toNat]

/-- The assembly line of a command (30_encoding.md R187). -/
def lineOf (i : Instr) : Option AsmLine :=
  let x := i.fields
  match opcodeTable.find? (fun row => row.op == x.op.toNat) with
  | some row =>
    some ⟨asmName row, operandOf row.d x.d ++ operandOf row.a x.a ++ operandOf row.b x.b ++ operandOf row.c x.c⟩
  | none => none

/-! ## Text -/

/-- A decimal number, at least one digit. DESIGN CHOICE: leading zeros are accepted (`f01`, `#02`); 30_encoding.md R187 does not say
(notes/assumptions/11.md). -/
def readDecimal (cs : List Char) : Option Nat :=
  if cs ≠ [] && cs.all Char.isDigit then some (cs.foldl (fun n ch => 10 * n + (ch.toNat - 48)) 0) else none

/-- An operand as text: `f3`, `#2`. -/
def readOperand : List Char → Option AsmOperand
  | '#' :: cs => (readDecimal cs).map .count
  | ch :: cs => do
    let f ← fileOfLetter? ch
    let n ← readDecimal cs
    return .reg f n
  | [] => none

/-- The text of a line split at its commas. DESIGN CHOICE: every space among the operands is dropped; 30_encoding.md R187 does not say
where spaces may stand (notes/assumptions/11.md). -/
def splitCommas : List Char → List Char → List (List Char)
  | acc, [] => [acc.reverse]
  | acc, ',' :: cs => acc.reverse :: splitCommas [] cs
  | acc, ' ' :: cs => splitCommas acc cs
  | acc, ch :: cs => splitCommas (ch :: acc) cs

/-- A line of text: `mnemonic operands`, a comment from `;` on (30_encoding.md R187). DESIGN CHOICE: a line that is blank or holds a
comment alone is no line of a command and is rejected as notALine, and spaces may stand before the mnemonic; R187 says neither
(notes/assumptions/11.md). -/
def readLine (cs : List Char) : Except AsmError AsmLine :=
  let cs := (cs.takeWhile (· != ';')).dropWhile (· == ' ')
  let name := cs.takeWhile (· != ' ')
  let rest := (cs.dropWhile (· != ' ')).dropWhile (· == ' ')
  if name = [] then .error .notALine
  else if rest = [] then .ok ⟨name, []⟩
  else
    match (splitCommas [] rest).mapM readOperand with
    | some ops => .ok ⟨name, ops⟩
    | none => .error .notALine

/-- The assembler on text (30_encoding.md R187 to R189). -/
def assembleText (text : String) : Except AsmError Word := do
  let l ← readLine text.toList
  assemble l

/-- An operand written out. -/
def AsmOperand.write : AsmOperand → List Char
  | .reg f i => fileLetter f :: Nat.toDigits 10 i
  | .count n => '#' :: Nat.toDigits 10 n

/-- A line written out, operands comma-separated (30_encoding.md R187). -/
def AsmLine.write (l : AsmLine) : List Char :=
  match l.operands.map AsmOperand.write with
  | [] => l.mnemonic
  | ops => l.mnemonic ++ ' ' :: (", ".toList).intercalate ops

end Sys2Proof.Machine
end

