-- ==== Sys2Proof/Machine/Montgomery.lean ====
section
/-! DEFINITION. Machine/Montgomery.lean: the internal Montgomery datapath, which no command result depends on (spec/10_state.md
R56, 40_fp.md R231 to R238, 42_scalar.md R351, R352). The commands' meanings compute on canonical values; that the datapath
computes the same is stated as obligations (R236). -/

namespace Sys2Proof.Machine

/-- One of the two datapaths: how many 64-bit limbs, the modulus, and `-modulus^-1 mod 2^64`. -/
structure MontPath where
  limbCount : Nat
  modulus : Nat
  inv : Nat
  deriving DecidableEq, Repr

/-- The Fp datapath: six limbs (40_fp.md R231, R232). -/
def montP : MontPath := ⟨6, Config.p, Config.invP⟩

/-- The scalar datapath: four limbs (42_scalar.md R351). -/
def montR : MontPath := ⟨4, Config.r, Config.invR⟩

/-- The radix, `2^384` for Fp and `2^256` for the scalar field (00_scope.md R14). -/
def MontPath.radix (M : MontPath) : Nat := 2 ^ (64 * M.limbCount)

/-- One round of the reducer: clear limb i of T by adding a multiple of the modulus (40_fp.md R232). -/
def montRound (M : MontPath) (T i : Nat) : Nat :=
  let k := (T >>> (64 * i)) % 2 ^ 64 * M.inv % 2 ^ 64
  T + k * M.modulus * 2 ^ (64 * i)

/-- The reducer's rounds for i in 0..n-1 (40_fp.md R232). -/
def montRounds (M : MontPath) (T : Nat) : Nat → Nat
  | 0 => T
  | n + 1 => montRound M (montRounds M T n) n

/-- `MontRed(T)`, word-serial reduction with one final conditional subtraction (40_fp.md R232, 42_scalar.md R351). -/
def montRed (M : MontPath) (T : Nat) : Nat :=
  let u := montRounds M T M.limbCount / M.radix
  if M.modulus ≤ u then u - M.modulus else u

/-- `MontMul(x, y) = MontRed(x · y)` (40_fp.md R234). -/
def montMul (M : MontPath) (x y : Nat) : Nat := montRed M (x * y)

/-- The stored form `mont(v) = v·R mod modulus` (40_fp.md R231). -/
def montForm (M : MontPath) (v : Nat) : Nat := v * M.radix % M.modulus

/-- Entering the datapath: `MontMul_p(v, R_p^2 mod p)` (40_fp.md R236). -/
def enterP (v : Nat) : Nat := montMul montP v (ofLimbs Config.radixP2)

/-- Leaving the datapath: `MontRed_p(mont_p(v))` (40_fp.md R236). -/
def leaveP (v : Nat) : Nat := montRed montP v

/-- The modular adder `ModAdd` (40_fp.md R237). -/
def modAdd (m x y : Nat) : Nat := if m ≤ x + y then x + y - m else x + y

/-- The modular subtractor `ModSub` (40_fp.md R237). -/
def modSub (m x y : Nat) : Nat := if x < y then x + m - y else x - y

/-- The modular negator `ModNeg` (40_fp.md R237). -/
def modNeg (m x : Nat) : Nat := if x ≠ 0 then m - x else 0

/-- The sum-of-products datapath on stored forms: up to 8 raw products are added and reduced once (40_fp.md R238). -/
def montSop8 (pairs : List (Nat × Nat)) : Nat := montRed montP ((pairs.map fun q => q.1 * q.2).sum)

/-- The sum-of-products datapath for up to 15 pairs: one reduction per 8 pairs, then one modular addition (40_fp.md R238). -/
def montSop (pairs : List (Nat × Nat)) : Nat := modAdd Config.p (montSop8 (pairs.take 8)) (montSop8 (pairs.drop 8))

/-- One way of reducing a 512-bit wide scalar `d0 + d1·2^256`, giving its stored form:
`MontMul_r(d0, 2^512) + MontMul_r(d1, 2^768)` (42_scalar.md R352). -/
def wideReduceR (d0 d1 : Nat) : Nat :=
  modAdd Config.r (montMul montR d0 (ofLimbs Config.radixR2)) (montMul montR d1 (ofLimbs Config.radixR3))

end Sys2Proof.Machine
end

