-- ==== Sys2Proof/Machine/Protocol.lean ====
section
/-! DEFINITION. Machine/Protocol.lean: the host protocol as turns (spec/45_system.md R543): the accesses a host makes to load BUF,
to issue a command and wait for it, and to read a result. -/

namespace Sys2Proof.Machine

/-- The offset of CMD (20_memory.md R121). -/
def cmdOffset : Offset := 0x008
/-- The offset of STATUS (20_memory.md R121). -/
def statusOffset : Offset := 0x00C
/-- The offset of CTRL (20_memory.md R121). -/
def ctrlOffset : Offset := 0x010
/-- The offset of BUF word k (20_memory.md R125). -/
def bufOffset (k : Nat) : Offset := BitVec.ofNat 9 (0x100 + 4 * k)

/-- One poll: the host reads STATUS (45_system.md R543). -/
def pollStatus : Turn := .host (.read statusOffset 4)

/-- `while STATUS.BUSY = 1: wait` (45_system.md R543). On an idle core, `none`, the first poll finds BUSY = 0. With a command in flight,
`some n`, n polls find BUSY = 1, the core completes, and the next poll finds BUSY = 0. -/
def wait : Option Nat → List Turn
  | none => [pollStatus]
  | some n => List.replicate n pollStatus ++ [.core, pollStatus]

/-- `issue(w)`: wait until the core is idle, write CMD, wait for the completion with n polls that find BUSY = 1, and read STATUS
(45_system.md R543). -/
def issue (first : Option Nat) (w : Word) (n : Nat) : List Turn :=
  wait first ++ .host (.write cmdOffset 4 w) :: (wait (some n) ++ [pollStatus])

/-- The host's writes of words to BUF from word k on (45_system.md R543). -/
def loadBuf (k : Nat) : List Word → List Turn
  | [] => []
  | v :: vs => .host (.write (bufOffset k) 4 v) :: loadBuf (k + 1) vs

/-- The host's reads of n words of BUF from word k on (45_system.md R543). -/
def readBuf (k : Nat) : Nat → List Turn
  | 0 => []
  | n + 1 => .host (.read (bufOffset k) 4) :: readBuf (k + 1) n

/-- `A host that loads operands writes BUF while BUSY is 0 and then issues` a decoding command (45_system.md R543). -/
def loadAndIssue (first : Option Nat) (vs : List Word) (w : Word) (n : Nat) : List Turn :=
  wait first ++ loadBuf 0 vs ++ issue none w n

/-- `A host that reads results issues` an encoding command, `waits for completion, and then reads BUF` (45_system.md R543). -/
def issueAndRead (first : Option Nat) (w : Word) (n words : Nat) : List Turn := issue first w n ++ readBuf 0 words

/-- ERR of a STATUS word; `issue` returns ERR and FLAG to the host (45_system.md R543). -/
def statusErr (w : Word) : BitVec 4 := w.extractLsb' 4 4
/-- FLAG of a STATUS word. -/
def statusFlag (w : Word) : Bool := w.getLsbD 1
/-- BUSY of a STATUS word. -/
def statusBusy (w : Word) : Bool := w.getLsbD 0
/-- STICKY of a STATUS word. -/
def statusSticky (w : Word) : BitVec 5 := w.extractLsb' 8 5

end Sys2Proof.Machine
end

