-- ==== Sys2Proof/Safety.lean ====
section
/-! DEFINITION. Safety.lean: what the spec says is true of every state of the core, as predicates that the statements use: the
invariants of the register files (10_state.md R55, R59), of BUF's form, of PENDING (R63, R72) and of ERR (R65, 60_exceptions.md R589). -/

namespace Sys2Proof.Machine

/-- The files hold canonical values alone: `every Fp coordinate and Fp2 component in every register is a canonical integer in [0, p), and
every scalar register is in [0, r)` (10_state.md R59), and an affine register with `inf = true` is the canonical identity (R55). -/
structure Files.Canonical (fs : Files) : Prop where
  F : ∀ i : FReg, fs.F[i] < Config.p
  E : ∀ i : EReg, fs.E[i].c0 < Config.p ∧ fs.E[i].c1 < Config.p
  S : ∀ i : SReg, fs.S[i] < Config.r
  A : ∀ i : AReg, fs.A[i].x < Config.p ∧ fs.A[i].y < Config.p
  P : ∀ i : PReg, fs.P[i].X < Config.p ∧ fs.P[i].Y < Config.p ∧ fs.P[i].Z < Config.p
  identity : ∀ i : AReg, fs.A[i].inf = true → fs.A[i] = Affine.identity
  BUF : Memory.wf fs.BUF = true

/-- The invariant of every state of the core. -/
structure State.Inv (s : State) : Prop where
  /-- The registers hold canonical values (R55, R59). -/
  files : s.files.Canonical
  /-- BUSY is 1 exactly while a command is in flight (R63, R72). -/
  busy : s.BUSY = s.PENDING.isSome
  /-- The in-flight record holds the word in CMD (R61) and the values the registers still have: `the operands cannot change in
  between` (R72). -/
  captured : ∀ q, s.PENDING = some q → q.word = s.CMD ∧ q.operands = s.files
  /-- The reserved result codes 5 to 15 are never written (60_exceptions.md R589). -/
  err : s.ERR.toNat ≤ 4

end Sys2Proof.Machine
end

