-- ==== Sys2Proof/Certificates/Slice0/Obligations.lean ====
section
/-! DEFINITION. Certificates/Slice0/Obligations.lean: the statements for the provers, and before them the few words they are written
in: exact residues, the word of a command, and the states in which a command has completed, each of which says its whole frame. -/

namespace Sys2Proof.Spec

open Sys2Proof.Machine

/-- `v mod m`, the least non-negative residue of an integer (00_scope.md R17). -/
def residue (m : Nat) (v : Int) : Nat := (v % m).toNat

/-- `w = op << 24 | d << 20 | a << 16 | b << 12 | c << 8` (30_encoding.md R185), as a sum of disjoint fields. -/
def word (op d a b c : Nat) : Word := BitVec.ofNat 32 (op * 2 ^ 24 + d * 2 ^ 20 + a * 2 ^ 16 + b * 2 ^ 12 + c * 2 ^ 8)

/-- The state after a command completed with its result: the files and FLAG are the given ones, ERR is 0, BUSY is 0 and PENDING is
none; CMD, STICKY and everything of the host's are as before (60_exceptions.md R571). -/
def finished (s : State) (fs : Files) (flag : Bool) : State :=
  { s with files := fs, FLAG := flag, ERR := 0, BUSY := false, PENDING := none }

/-- The state after a command failed with code k: ERR is k, STICKY bit `7 + k` of STATUS is set, BUSY is 0 and PENDING is none; every
register, BUF byte and FLAG is as before (60_exceptions.md R571, R573). -/
def failed (s : State) (k : Nat) : State :=
  { s with ERR := BitVec.ofNat 4 k, STICKY := s.STICKY ||| (1#5 <<< (k - 1)), BUSY := false, PENDING := none }

/-- A command completed by writing `F[d]` alone. -/
def putF (s : State) (d : FReg) (v : Nat) : State := finished s { s.files with F := s.files.F.set d v } s.FLAG
/-- A command completed by writing `E[d]` alone. -/
def putE (s : State) (d : EReg) (v : Fp2) : State := finished s { s.files with E := s.files.E.set d v } s.FLAG
/-- A command completed by writing `S[d]` alone. -/
def putS (s : State) (d : SReg) (v : Nat) : State := finished s { s.files with S := s.files.S.set d v } s.FLAG
/-- A command completed by writing `A[d]` alone. -/
def putA (s : State) (d : AReg) (v : Affine) : State := finished s { s.files with A := s.files.A.set d v } s.FLAG
/-- A command completed by writing `P[d]` alone. -/
def putP (s : State) (d : PReg) (v : Proj) : State := finished s { s.files with P := s.files.P.set d v } s.FLAG
/-- A command completed by writing BUF alone. -/
def putBuf (s : State) (m : Memory) : State := finished s { s.files with BUF := m } s.FLAG
/-- A command completed by writing FLAG alone. -/
def flagged (s : State) (v : Bool) : State := finished s s.files v

/-- `be_int(BUF[off..off+n-1])` as a sum (00_scope.md R20). -/
def beInteger (m : Memory) (off n : Nat) : Nat := ∑ k ∈ Finset.range n, (bufByte m (off + k)).toNat * 256 ^ (n - 1 - k)

/-- `le_int(BUF[off..off+n-1])` as a sum (00_scope.md R20). -/
def leInteger (m : Memory) (off n : Nat) : Nat := ∑ k ∈ Finset.range n, (bufByte m (off + k)).toNat * 256 ^ k

/-- The bytes `m[k]` of BUF for k below n are `be_bytes_n(v)`, and every other byte is that of the memory `old` (10_state.md R60). -/
def HoldsBE (m old : Memory) (n v : Nat) : Prop :=
  Memory.wf m = true ∧ (∀ k < n, (bufByte m k).toNat = v / 256 ^ (n - 1 - k) % 256) ∧ ∀ k, n ≤ k → bufByte m k = bufByte old k

/-- The commands of 10_state.md R66, the only ones that write FLAG. -/
def isPredicate : Instr → Bool
  | .fpIszero _ | .fpEq _ _ | .fpLexl _ | .fp2Iszero _ | .fp2Eq _ _ | .scIszero _ | .scEq _ _ | .paIsid _ | .paOncurve _
  | .paTorsionfree _ | .paEq _ _ | .ppIsid _ | .ppOncurve _ | .ppEq _ _ => true
  | _ => false

/-- The one domain error a command may raise, as its code, 0 for none (60_exceptions.md R572). -/
def errorOf : Instr → Nat
  | .fpInv _ _ | .fp2Inv _ _ | .scInv _ _ => 1
  | .fpSqrt _ _ | .fp2Sqrt _ _ | .scSqrt _ _ => 2
  | .fpFrombytes _ | .scFrombytes _ | .paFromcomp _ | .paFromcompu _ | .paFromuncomp _ | .paFromuncompu _ => 3
  | _ => 0

/-- A field's value is legal for its column: below 8 in E, S, A and P (30_encoding.md R174). -/
def fieldLegal : OperandKind → BitVec 4 → Prop
  | .reg .F, _ => True
  | .reg _, v => v.toNat < 8
  | .unused, _ => True
  | .count, _ => True

/-- The register-range and count checks of 30_encoding.md R174 and R175 for a row of the opcode map. -/
def rowLegal (row : OpcodeRow) (x : Fields) : Prop :=
  fieldLegal row.d x.d ∧ fieldLegal row.a x.a ∧ fieldLegal row.b x.b ∧ fieldLegal row.c x.c ∧
  (row.op = 0x10 → 1 ≤ x.c.toNat ∧ x.a.toNat + x.c.toNat ≤ 16 ∧ x.b.toNat + x.c.toNat ≤ 16) ∧
  (row.op = 0x92 → 1 ≤ x.c.toNat ∧ x.d.toNat + x.c.toNat ≤ 8 ∧ x.a.toNat + x.c.toNat ≤ 8)

/-- An operand that a column of the opcode map takes: a register of its file with an index in range, or a count of 1 to 15
(30_encoding.md R174, R175, R188). -/
def fits : OperandKind → AsmOperand → Prop
  | .reg f, .reg g n => g = f ∧ n < (if f = .F then 16 else 8)
  | .count, .count n => 1 ≤ n ∧ n ≤ 15
  | _, _ => False

/-- The state u, but for its turns and what the host last read, after the wait that `wait first` describes (45_system.md R543). -/
def AfterWait (s : State) : Option Nat → State → Prop
  | none, u => s.BUSY = false ∧ u = s
  | some _, u => s.BUSY = true ∧ ∃ q, s.PENDING = some q ∧ runWord q.word s = .next u

/-- A location that a command may read or write: a register of a file, or a byte of BUF. -/
inductive Location where
  | reg (file : RegFile) (n : Nat)
  | byte (k : Nat)
  deriving DecidableEq, Repr

/-- Two contents of the files agree at a location. -/
def SameAt (x y : Files) : Location → Prop
  | .reg .F n => x.F[n]? = y.F[n]?
  | .reg .E n => x.E[n]? = y.E[n]?
  | .reg .S n => x.S[n]? = y.S[n]?
  | .reg .A n => x.A[n]? = y.A[n]?
  | .reg .P n => x.P[n]? = y.P[n]?
  | .byte k => bufByte x.BUF k = bufByte y.BUF k

/-- The registers `f[a..a+n-1]` of a file. -/
def registers (f : RegFile) (a n : Nat) : List Location := (List.range n).map fun k => .reg f (a + k)

/-- The bytes `BUF[0..n-1]` (20_memory.md R141). -/
def leadingBytes (n : Nat) : List Location := (List.range n).map .byte

/-- The operands a command names: the registers of its fields a, b and c (30_encoding.md R178), the ranges of the two batch commands
(40_fp.md R255, 44_projective.md R501), or the bytes a decoder reads (20_memory.md R133). -/
def sources : Instr → List Location
  | .nop | .fpZero _ | .fpOne _ | .fp2Zero _ | .fp2One _ | .scZero _ | .scOne _ | .paIdentity _ | .paGen _ | .ppIdentity _ |
      .ppGen _ => []
  | .fpMov _ a | .fpIszero a | .fpNeg _ a | .fpSqr _ a | .fpInv _ a | .fpSqrt _ a | .fpLexl a | .fpTobytes a => [.reg .F a]
  | .fpEq a b | .fpAdd _ a b | .fpSub _ a b | .fpMul _ a b | .fp2Pack _ a b | .paSet _ a b => [.reg .F a, .reg .F b]
  | .fpFrombytes _ | .paFromcomp _ | .paFromcompu _ => leadingBytes 48
  | .fpSop _ a b n => registers .F a n ++ registers .F b n
  | .fp2Mov _ a | .fp2C0 _ a | .fp2C1 _ a | .fp2Iszero a | .fp2Neg _ a | .fp2Sqr _ a | .fp2Conj _ a | .fp2Frob _ a | .fp2Mulnr _ a |
      .fp2Inv _ a | .fp2Sqrt _ a => [.reg .E a]
  | .fp2Eq a b | .fp2Add _ a b | .fp2Sub _ a b | .fp2Mul _ a b => [.reg .E a, .reg .E b]
  | .fp2Pow _ a b => [.reg .E a, .reg .F b]
  | .scMov _ a | .scIszero a | .scNeg _ a | .scSqr _ a | .scInv _ a | .scSqrt _ a | .scTobytes a => [.reg .S a]
  | .scEq a b | .scAdd _ a b | .scSub _ a b | .scMul _ a b | .scPow _ a b => [.reg .S a, .reg .S b]
  | .scFrombytes _ => leadingBytes 32
  | .scFromwide _ => leadingBytes 64
  | .paMov _ a | .paGetx _ a | .paGety _ a | .paIsid a | .paOncurve a | .paTorsionfree a | .paNeg _ a | .paEndo _ a | .paTocomp a |
      .paTouncomp a | .ppFromaff _ a => [.reg .A a]
  | .paEq a b | .paAdd _ a b => [.reg .A a, .reg .A b]
  | .paFromproj _ a | .ppMov _ a | .ppGetx _ a | .ppGety _ a | .ppGetz _ a | .ppIsid a | .ppOncurve a | .ppNeg _ a | .ppDbl _ a |
      .ppClearcof _ a => [.reg .P a]
  | .paMul _ a b => [.reg .A a, .reg .S b]
  | .paFromuncomp _ | .paFromuncompu _ => leadingBytes 96
  | .ppSet _ a b c => [.reg .F a, .reg .F b, .reg .F c]
  | .ppEq a b | .ppAdd _ a b | .ppSub _ a b => [.reg .P a, .reg .P b]
  | .ppAddm _ a b => [.reg .P a, .reg .A b]
  | .ppMul _ a b => [.reg .P a, .reg .S b]
  | .ppBatchnorm _ a n => registers .P a n

/-- The registers and BUF bytes a command writes: the register of its field d, the range of `PP.BATCHNORM`, or the bytes an encoder
writes (10_state.md R60). The predicates of `isPredicate` write FLAG instead. -/
def dests : Instr → List Location
  | .nop | .fpIszero _ | .fpEq _ _ | .fpLexl _ | .fp2Iszero _ | .fp2Eq _ _ | .scIszero _ | .scEq _ _ | .paIsid _ | .paOncurve _ |
      .paTorsionfree _ | .paEq _ _ | .ppIsid _ | .ppOncurve _ | .ppEq _ _ => []
  | .fpZero d | .fpOne d | .fpMov d _ | .fpAdd d _ _ | .fpSub d _ _ | .fpNeg d _ | .fpMul d _ _ | .fpSqr d _ | .fpInv d _ | .fpSqrt d _ |
      .fpFrombytes d | .fpSop d _ _ _ | .fp2C0 d _ | .fp2C1 d _ | .paGetx d _ | .paGety d _ | .ppGetx d _ | .ppGety d _ |
      .ppGetz d _ => [.reg .F d]
  | .fpTobytes _ | .paTocomp _ => leadingBytes 48
  | .fp2Zero d | .fp2One d | .fp2Mov d _ | .fp2Pack d _ _ | .fp2Add d _ _ | .fp2Sub d _ _ | .fp2Neg d _ | .fp2Mul d _ _ | .fp2Sqr d _ |
      .fp2Conj d _ | .fp2Frob d _ | .fp2Mulnr d _ | .fp2Inv d _ | .fp2Sqrt d _ | .fp2Pow d _ _ => [.reg .E d]
  | .scZero d | .scOne d | .scMov d _ | .scAdd d _ _ | .scSub d _ _ | .scNeg d _ | .scMul d _ _ | .scSqr d _ | .scInv d _ | .scSqrt d _ |
      .scPow d _ _ | .scFrombytes d | .scFromwide d => [.reg .S d]
  | .scTobytes _ => leadingBytes 32
  | .paIdentity d | .paGen d | .paMov d _ | .paSet d _ _ | .paNeg d _ | .paEndo d _ | .paFromproj d _ | .paFromcomp d | .paFromcompu d |
      .paFromuncomp d | .paFromuncompu d => [.reg .A d]
  | .paAdd d _ _ | .paMul d _ _ | .ppIdentity d | .ppGen d | .ppMov d _ | .ppSet d _ _ _ | .ppFromaff d _ | .ppNeg d _ | .ppDbl d _ |
      .ppAdd d _ _ | .ppSub d _ _ | .ppAddm d _ _ | .ppMul d _ _ | .ppClearcof d _ => [.reg .P d]
  | .paTouncomp _ => leadingBytes 96
  | .ppBatchnorm d _ n => registers .A d n

/-- The opcode values that no row has (30_encoding.md R181). -/
def unassigned (op : Nat) : Prop :=
  (0x11 ≤ op ∧ op ≤ 0x1F) ∨ (0x33 ≤ op ∧ op ≤ 0x3F) ∨ (0x50 ≤ op ∧ op ≤ 0x5F) ∨ (0x75 ≤ op ∧ op ≤ 0x7F) ∨
  (0x93 ≤ op ∧ op ≤ 0x9F) ∨ (0xA0 ≤ op ∧ op ≤ 0xFF)

/-- The turns that reset the core: power-on reset, and an admitted write of CTRL with bit 0 set (70_reset_and_hazards.md R620). -/
def isReset : Turn → Bool
  | .powerOnReset => true
  | .host (.write addr bytes v) => decide (addr = 0x010) && decide (bytes = 4) && v.getLsbD 0
  | _ => false

/-- The turns that clear STICKY: those that reset, and an admitted write of CTRL with bit 1 set (10_state.md R67, R69). -/
def clearsSticky : Turn → Bool
  | .host (.write addr bytes v) => decide (addr = 0x010) && decide (bytes = 4) && (v.getLsbD 0 || v.getLsbD 1)
  | t => isReset t

/-- The reserved offsets of the window that an admitted access can name (20_memory.md R121, R124). -/
def reservedOffset (addr : Offset) : Prop :=
  addr.toNat % 4 = 0 ∧ ((0x014 ≤ addr.toNat ∧ addr.toNat < 0x100) ∨ 0x160 ≤ addr.toNat)

/-- The closed form of the complete addition of 44_projective.md R473 for `b = 4`, as exact integers modulo p. -/
def addFormula (X1 Y1 Z1 X2 Y2 Z2 : Int) : Proj :=
  ⟨residue Config.p ((X1 * Y2 + X2 * Y1) * (Y1 * Y2 - 12 * Z1 * Z2) - 12 * (Y1 * Z2 + Y2 * Z1) * (X1 * Z2 + X2 * Z1)),
    residue Config.p ((Y1 * Y2 + 12 * Z1 * Z2) * (Y1 * Y2 - 12 * Z1 * Z2) + 36 * X1 * X2 * (X1 * Z2 + X2 * Z1)),
    residue Config.p ((Y1 * Z2 + Y2 * Z1) * (Y1 * Y2 + 12 * Z1 * Z2) + 3 * X1 * X2 * (X1 * Y2 + X2 * Y1))⟩

/-- The closed form of the doubling of 44_projective.md R472 for `b = 4`, without its selection at `Z = 0`. -/
def doubleFormula (X Y Z : Int) : Proj :=
  ⟨residue Config.p (2 * X * Y * (Y ^ 2 - 36 * Z ^ 2)),
    residue Config.p ((Y ^ 2 - 36 * Z ^ 2) * (Y ^ 2 + 12 * Z ^ 2) + 96 * Y ^ 2 * Z ^ 2), residue Config.p (8 * Y ^ 3 * Z)⟩

/-- The curve `y² = x³ + 4` over the field of p elements (00_scope.md R11), as Mathlib has it. -/
def curve : WeierstrassCurve.Affine (ZMod Config.p) := { a₁ := 0, a₂ := 0, a₃ := 0, a₄ := 0, a₆ := 4 }

/-- A triple is a valid representative of a point of the curve (44_projective.md R502): `(0, Y, 0)` with `Y ≠ 0` of the identity, and a
triple with `Z ≠ 0` of the point `(X/Z, Y/Z)`. -/
def Represents (P : Proj) : curve.Point → Prop
  | .zero => P.X = 0 ∧ P.Y ≠ 0 ∧ P.Y < Config.p ∧ P.Z = 0
  | .some x y _ => P.X < Config.p ∧ P.Y < Config.p ∧ P.Z < Config.p ∧ P.Z ≠ 0 ∧
      (P.X : ZMod Config.p) = x * P.Z ∧ (P.Y : ZMod Config.p) = y * P.Z

end Sys2Proof.Spec

open Sys2Proof Sys2Proof.Machine Sys2Proof.Spec

/-- Decoding inverts encoding on every well-formed command (30_encoding.md R183, R185). -/
def Obligations.DecodeOfEncodeIsTheCommand : Prop :=
  ∀ i : Instr, i.wellFormed = true → decode (encode i) = .ok i

/-- Encoding inverts decoding on every word that decodes, such a word has the effect of its command, and every other word has the effect of ILLEGAL_COMMAND (30_encoding.md R182). -/
def Obligations.EncodeOfDecodeIsTheWord : Prop :=
  decode 0x00000000#32 = .ok .nop ∧
  (∀ (w : Word) (i : Instr), decode w = .ok i → encode i = w ∧ i.wellFormed = true ∧ ∀ s : State, runWord w s = exec i s) ∧
  ∀ (w : Word) (s : State), (∀ i : Instr, decode w ≠ .ok i) → runWord w s = .next (failed s 4)

/-- The decoder, which is written by formats, agrees with the table of masks and patterns of 30_encoding.md R178 on all 2^32 words. -/
def Obligations.OpcodeMapDecidesTheDecoder : Prop :=
  (∀ (w : Word) (row : OpcodeRow), row ∈ opcodeTable →
    ((w &&& row.mask = row.pattern ∧ rowLegal row (fieldsOf w)) ↔
      ∃ i : Instr, decode w = .ok i ∧ i.fields.op.toNat = row.op)) ∧
  ∀ (w : Word) (i : Instr), decode w = .ok i → ∃ row ∈ opcodeTable, i.fields.op.toNat = row.op

/-- The illegal encodings of 30_encoding.md R176, R177 and R181 and the whole effect of an illegal word. -/
def Obligations.MalformedWordsAreIllegal : Prop :=
  (∀ w : Word, w.extractLsb' 0 8 ≠ 0 → isIllegal w = true) ∧
  (∀ (w : Word) (row : OpcodeRow), row ∈ opcodeTable → (w.extractLsb' 24 8).toNat = row.op →
    w &&& row.mask ≠ row.pattern → isIllegal w = true) ∧
  (∀ w : Word, unassigned (w.extractLsb' 24 8).toNat → isIllegal w = true) ∧
  ∀ (w : Word) (s : State), isIllegal w = true → runWord w s = .next (failed s 4)

/-- Words written out bit by bit from 30_encoding.md R171, R178 and R185. The names of the reasons are the model's. -/
def Obligations.SpelledOutWordsDecode : Prop :=
  decode 0x09312000#32 = .ok (.fpMul 3 1 2) ∧ decode 0x00000000#32 = .ok .nop ∧
  decode 0x10048200#32 = .ok (.fpSop 0 4 8 2) ∧ decode 0x32713000#32 = .ok (.fp2Pow 7 1 3) ∧
  decode 0x4C123000#32 = .ok (.scPow 1 2 3) ∧ decode 0x6E213000#32 = .ok (.paMul 2 1 3) ∧
  decode 0x8301E200#32 = .ok (.ppSet 0 1 14 2) ∧ decode 0x92020300#32 = .ok (.ppBatchnorm 0 2 3) ∧
  decode 0x00000001#32 = .error .reservedByte ∧ decode 0x11000000#32 = .error .unassignedOpcode

/-- The assembler of 30_encoding.md R187 to R189 against the encoder and the decoder, on every line. The line as data and the names of its errors are the model's (notes/assumptions/11.md). -/
def Obligations.AssemblerWritesExactlyTheLegalWords : Prop :=
  (∀ (l : AsmLine) (w : Word), assemble l = .ok w ↔
    ∃ i : Instr, i.wellFormed = true ∧ lineOf i = some (expandPseudo l) ∧ w = encode i) ∧
  (∀ i : Instr, i.wellFormed = true → ∃ l, lineOf i = some l ∧ assemble l = .ok (encode i)) ∧
  (∀ (l : AsmLine) (w : Word), assemble l = .ok w → isIllegal w = false ∧
    ∃ row ∈ opcodeTable, asmName row = (expandPseudo l).mnemonic ∧
      List.Forall₂ fits ([row.d, row.a, row.b, row.c].filter (· ≠ .unused)) (expandPseudo l).operands) ∧
  (∀ l : AsmLine, (∀ row ∈ opcodeTable, asmName row ≠ (expandPseudo l).mnemonic) → assemble l = .error .unknownMnemonic) ∧
  (∀ f n m, f ≠ RegFile.F → assemble ⟨"fp.mov".toList, [.reg f n, .reg .F m]⟩ = .error .wrongFile) ∧
  (∀ n m, 16 ≤ n → assemble ⟨"fp.mov".toList, [.reg .F n, .reg .F m]⟩ = .error .indexOutOfRange) ∧
  (∀ n w, 8 ≤ n → assemble ⟨"sc.zero".toList, [.reg .S n]⟩ ≠ .ok w) ∧
  (∀ d a w, assemble ⟨"pp.batchnorm".toList, [.reg .A d, .reg .P a, .count 0]⟩ ≠ .ok w) ∧
  (∀ d a, assemble ⟨"fp.dbl".toList, [d, a]⟩ = assemble ⟨"fp.add".toList, [d, a, a]⟩ ∧
    assemble ⟨"fp2.dbl".toList, [d, a]⟩ = assemble ⟨"fp2.add".toList, [d, a, a]⟩ ∧
    assemble ⟨"sc.dbl".toList, [d, a]⟩ = assemble ⟨"sc.add".toList, [d, a, a]⟩ ∧
    assemble ⟨"pp.inf".toList, [d]⟩ = assemble ⟨"pp.identity".toList, [d]⟩ ∧
    assemble ⟨"pa.inf".toList, [d]⟩ = assemble ⟨"pa.identity".toList, [d]⟩)

/-- What one step is, for every head of the turns (60_exceptions.md R571). The schedule is the model's choice (notes/assumptions/1.md), and so is how a word is placed (notes/assumptions/7.md). -/
def Obligations.StepRunsTheAcceptedCommand : Prop :=
  (∀ (s : State) (q : InFlight) (i : Instr), s.turns = [] → s.PENDING = some q → decode q.word = .ok i → step s = exec i s) ∧
  (∀ (s : State) (q : InFlight) (i : Instr) (rest : List Turn), s.turns = .core :: rest → s.PENDING = some q →
    decode q.word = .ok i → step s = exec i { s with turns := rest }) ∧
  (∀ (s : State) (q : InFlight) (e : IllegalReason) (rest : List Turn), s.turns = .core :: rest → s.PENDING = some q →
    decode q.word = .error e → step s = .next (failed { s with turns := rest } 4)) ∧
  (∀ (s : State) (q : InFlight) (e : IllegalReason), s.turns = [] → s.PENDING = some q → decode q.word = .error e →
    step s = .next (failed s 4)) ∧
  (∀ (s : State) (rest : List Turn), s.turns = .core :: rest → s.PENDING = none → step s = .next { s with turns := rest }) ∧
  (∀ s : State, s.turns = [] → s.PENDING = none → step s = .next s) ∧
  (∀ (s : State) (a : HostAccess) (rest : List Turn), s.turns = .host a :: rest →
    step s = .next ({ s with turns := rest }.access a)) ∧
  (∀ (s : State) (rest : List Turn), s.turns = .powerOnReset :: rest → step s = .next ({ s with turns := rest }.resetCore)) ∧
  (∀ (s : State) (n w : Nat) (i : Instr), decode (BitVec.ofNat 32 (w % 2 ^ n)) = .ok i →
    step (s.withFetchWord n w) = exec i (s.capture (BitVec.ofNat 32 (w % 2 ^ n)))) ∧
  ∀ (s : State) (n w : Nat) (e : IllegalReason), decode (BitVec.ofNat 32 (w % 2 ^ n)) = .error e →
    step (s.withFetchWord n w) = .next (failed (s.capture (BitVec.ofNat 32 (w % 2 ^ n))) 4)

/-- The completion step of 60_exceptions.md R571 for any word: ERR is always written (10_state.md R64), a failed command is atomic (R573), and the codes 5 to 15 are never written (R589). -/
def Obligations.CompletionIsAtomic : Prop :=
  ∀ (w : Word) (s : State), ∃ t : State, runWord w s = .next t ∧ t.BUSY = false ∧ t.PENDING = none ∧
    t.CMD = s.CMD ∧ t.turns = s.turns ∧ t.readData = s.readData ∧ t.draws = s.draws ∧
    (t.ERR = 0 → t.STICKY = s.STICKY) ∧
    (t.ERR ≠ 0 → t.ERR.toNat ≤ 4 ∧ t.STICKY = s.STICKY ||| (1#5 <<< (t.ERR.toNat - 1)) ∧
      t.files = s.files ∧ t.FLAG = s.FLAG)

/-- Who writes FLAG (10_state.md R66). -/
def Obligations.FlagIsWrittenOnlyByPredicates : Prop :=
  ∀ (i : Instr) (s : State), ∃ t : State, exec i s = .next t ∧
    (isPredicate i = false ∨ t.ERR ≠ 0 → t.FLAG = s.FLAG) ∧
    (isPredicate i = true → t.ERR = 0 ∧ t.files = s.files) ∧
    t.statusWord.getLsbD 1 = t.FLAG

/-- The exhaustive map of error kinds to commands (60_exceptions.md R572); a legal command has at most one candidate code (R574). -/
def Obligations.OnlyTheListedCommandsFail : Prop :=
  ∀ (i : Instr) (s : State), i.wellFormed = true →
    ∃ t : State, exec i s = .next t ∧ (t.ERR = 0 ∨ (errorOf i ≠ 0 ∧ t.ERR = BitVec.ofNat 4 (errorOf i)))

/-- The frame of every command by family (10_state.md R60, R75). -/
def Obligations.FamiliesWriteOnlyTheirFiles : Prop :=
  ∀ (i : Instr) (s : State), ∃ t : State, exec i s = .next t ∧
    let op := i.fields.op.toNat
    (op = 0x00 → t.files = s.files ∧ t.FLAG = s.FLAG) ∧
    (0x01 ≤ op ∧ op ≤ 0x1F → t.files.E = s.files.E ∧ t.files.S = s.files.S ∧ t.files.A = s.files.A ∧ t.files.P = s.files.P) ∧
    (0x20 ≤ op ∧ op ≤ 0x3F → t.files.S = s.files.S ∧ t.files.A = s.files.A ∧ t.files.P = s.files.P) ∧
    (0x40 ≤ op ∧ op ≤ 0x5F → t.files.F = s.files.F ∧ t.files.E = s.files.E ∧ t.files.A = s.files.A ∧ t.files.P = s.files.P) ∧
    (0x60 ≤ op ∧ op ≤ 0x7F → t.files.E = s.files.E ∧ t.files.S = s.files.S) ∧
    (0x80 ≤ op ∧ op ≤ 0x9F → t.files.E = s.files.E ∧ t.files.S = s.files.S) ∧
    (op ≠ 0x0E ∧ op ≠ 0x4D ∧ op ≠ 0x6F ∧ op ≠ 0x70 → t.files.BUF = s.files.BUF) ∧
    (op = 0x0E ∨ op = 0x6F → ∀ k, 48 ≤ k → bufByte t.files.BUF k = bufByte s.files.BUF k) ∧
    (op = 0x4D → ∀ k, 32 ≤ k → bufByte t.files.BUF k = bufByte s.files.BUF k) ∧
    (op = 0x70 → ∀ k, 96 ≤ k → bufByte t.files.BUF k = bufByte s.files.BUF k)

/-- The core never halts or locks up because of a command (60_exceptions.md R577), and no command raises a trap (R570). -/
def Obligations.TheMachineNeverStops : Prop :=
  ∀ s : State, ∃ t : State, step s = .next t

/-- Every accepted command completes (70_reset_and_hazards.md R631) and `the operands cannot change in between` (10_state.md R72). That its turns end is the model's form of a finite LATENCY (notes/assumptions/1.md). -/
def Obligations.AcceptedCommandCompletesOnItsOperands : Prop :=
  ∀ (s v : State) (q : InFlight), s.BUSY = true → s.PENDING = some q → (∀ x ∈ s.turns, isReset x = false) →
    runWord q.word s = .next v →
    ∃ (k : Nat) (t : State), k ≤ s.turns.length + 1 ∧ Sys2Proof.core.run k s = .next t ∧ t.BUSY = false ∧ t.PENDING = none ∧
      t.files = v.files ∧ t.FLAG = v.FLAG ∧ t.ERR = v.ERR ∧ t.CMD = s.CMD

/-- No hidden state takes part in a command (60_exceptions.md R576, 45_system.md R541): its code and results are fixed by the operands it names, although PENDING holds all the files (notes/assumptions/5.md), and everything else stays (R571, R573). -/
def Obligations.EffectDependsOnOperandsAlone : Prop :=
  ∀ (i : Instr) (s s' : State), Memory.wf s.files.BUF = true → Memory.wf s'.files.BUF = true →
    (∀ x ∈ sources i, SameAt s.operands s'.operands x) →
    ∃ t t' : State, exec i s = .next t ∧ exec i s' = .next t' ∧ t.ERR = t'.ERR ∧
      (t.ERR = 0 → (∀ x ∈ dests i, SameAt t.files t'.files x) ∧ (isPredicate i = true → t.FLAG = t'.FLAG)) ∧
      (∀ x, x ∉ dests i ∨ t.ERR ≠ 0 → SameAt t.files s.files x) ∧ (isPredicate i = false ∨ t.ERR ≠ 0 → t.FLAG = s.FLAG) ∧
      t = { s with
        files := t.files, FLAG := t.FLAG, ERR := t.ERR, BUSY := false, PENDING := none
        STICKY := if t.ERR = 0 then s.STICKY else s.STICKY ||| (1#5 <<< (t.ERR.toNat - 1)) }

/-- Command issue (20_memory.md R128). That the record holds all the files is the model's choice (notes/assumptions/5.md). -/
def Obligations.CommandWriteIsAcceptedOrDropped : Prop :=
  ∀ (s : State) (w : Word),
    (s.BUSY = false → s.access (.write 0x008 4 w) = { s with CMD := w, BUSY := true, PENDING := some ⟨w, s.files⟩ }) ∧
    (s.BUSY = true → s.access (.write 0x008 4 w) = { s with STICKY := s.STICKY ||| 0b10000#5 })

/-- BUF through the window (20_memory.md R126). That BUF keeps its canonical form is the model's own clause (notes/assumptions/13.md). -/
def Obligations.BufWriteStoresFourBytes : Prop :=
  ∀ (s : State) (k : Nat) (v : Word), k < 24 → Memory.wf s.files.BUF = true →
    let t := s.access (.write (BitVec.ofNat 9 (0x100 + 4 * k)) 4 v)
    (s.BUSY = false →
      t = { s with files := { s.files with BUF := t.files.BUF } } ∧ Memory.wf t.files.BUF = true ∧
      (∀ j < 4, bufByte t.files.BUF (4 * k + j) = v.extractLsb' (8 * j) 8) ∧
      ∀ i, i < 4 * k ∨ 4 * k + 4 ≤ i → bufByte t.files.BUF i = bufByte s.files.BUF i) ∧
    (s.BUSY = true → t = { s with STICKY := s.STICKY ||| 0b10000#5 })

/-- BUF through the window (20_memory.md R125, R127). Config.busyBufRead has no body, so this holds for every value a busy read may return; its counter is the model's own (notes/assumptions/2.md, 4.md). -/
def Obligations.BufReadPacksFourBytes : Prop :=
  ∀ (s : State) (k : Nat), k < 24 →
    (s.BUSY = false → s.access (.read (BitVec.ofNat 9 (0x100 + 4 * k)) 4) =
      { s with readData := BitVec.ofNat 32 (∑ j ∈ Finset.range 4, (bufByte s.files.BUF (4 * k + j)).toNat * 256 ^ j) }) ∧
    (s.BUSY = true → s.access (.read (BitVec.ofNat 9 (0x100 + 4 * k)) 4) =
      { s with readData := Config.busyBufRead s.draws, draws := s.draws + 1 })

/-- The register map's reads (20_memory.md R121, R142). readData is the model's own (notes/assumptions/4.md). -/
def Obligations.WindowReadsHaveNoSideEffect : Prop :=
  ∀ s : State,
    s.access (.read 0x000 4) = { s with readData := 0x47314331#32 } ∧
    s.access (.read 0x004 4) = { s with readData := 0x00000001#32 } ∧
    s.access (.read 0x008 4) = { s with readData := s.CMD } ∧
    s.access (.read 0x00C 4) = { s with readData := s.statusWord } ∧
    s.access (.read 0x010 4) = { s with readData := 0 } ∧
    (∀ addr : Offset, reservedOffset addr → s.access (.read addr 4) = { s with readData := 0 }) ∧
    ∀ (addr : Offset) (bytes : Nat), ∃ (v : Word) (n : Nat), s.access (.read addr bytes) = { s with readData := v, draws := n }

/-- What the window ignores (20_memory.md R123, R124). readData is the model's own (notes/assumptions/4.md, 8.md). -/
def Obligations.InadmissibleAndReadOnlyAccessesAreIgnored : Prop :=
  ∀ (s : State) (addr : Offset) (bytes : Nat) (v : Word),
    (bytes ≠ 4 ∨ addr.toNat % 4 ≠ 0 →
      s.access (.write addr bytes v) = s ∧ s.access (.read addr bytes) = { s with readData := 0 }) ∧
    (addr = 0x000 ∨ addr = 0x004 ∨ addr = 0x00C ∨ reservedOffset addr → s.access (.write addr 4 v) = s)

/-- CTRL (10_state.md R69, 20_memory.md R130). What stays of the host's side over a reset is the model's choice (notes/assumptions/10.md). -/
def Obligations.CtrlActsAtOnce : Prop :=
  ∀ (s : State) (v : Word),
    (v.getLsbD 0 = true → s.access (.write 0x010 4 v) =
      { State.reset with turns := s.turns, readData := s.readData, draws := s.draws }) ∧
    (v.getLsbD 0 = false → v.getLsbD 1 = true → s.access (.write 0x010 4 v) = { s with STICKY := 0 }) ∧
    (v.getLsbD 0 = false → v.getLsbD 1 = false → s.access (.write 0x010 4 v) = s)

/-- The reset values (10_state.md R74) and the two reset sources (70_reset_and_hazards.md R620, R621). The turns are the model's own (notes/assumptions/1.md). -/
def Obligations.ResetGivesTheListedValues : Prop :=
  (∀ i : Fin 16, State.reset.files.F[i] = 0) ∧ (∀ i : Fin 8, State.reset.files.E[i] = ⟨0, 0⟩) ∧
  (∀ i : Fin 8, State.reset.files.S[i] = 0) ∧ (∀ i : Fin 8, State.reset.files.A[i] = ⟨0, 1, true⟩) ∧
  (∀ i : Fin 8, State.reset.files.P[i] = ⟨0, 1, 0⟩) ∧ (∀ k, bufByte State.reset.files.BUF k = 0) ∧
  State.reset.CMD = 0 ∧ State.reset.BUSY = false ∧ State.reset.FLAG = false ∧ State.reset.ERR = 0 ∧ State.reset.STICKY = 0 ∧
  State.reset.PENDING = none ∧ State.reset.statusWord = 0 ∧
  ∀ (s : State) (x : Turn) (rest : List Turn), isReset x = true → s.turns = x :: rest → ∃ t : State, step s = .next t ∧
    t.files = State.reset.files ∧ t.CMD = 0 ∧ t.statusWord = 0 ∧ t.PENDING = none ∧ t.turns = rest

/-- The layout of STATUS (10_state.md R62, R68). -/
def Obligations.StatusWordLayout : Prop :=
  (∀ (s : State) (k : Nat), k < 32 → s.statusWord.getLsbD k =
    (if k = 0 then s.BUSY else if k = 1 then s.FLAG else if 4 ≤ k ∧ k ≤ 7 then s.ERR.getLsbD (k - 4)
      else if 8 ≤ k ∧ k ≤ 12 then s.STICKY.getLsbD (k - 8) else false)) ∧
  (∀ (s : State) (v : Word), s.access (.write 0x00C 4 v) = s) ∧
  State.reset.statusWord = 0 ∧
  ∀ s : State, (s.access (.write 0x010 4 2#32)).STICKY = 0

/-- The invariants of 10_state.md R55, R59, R63 and R72 and of 60_exceptions.md R589, kept by every step from every state that has them. -/
def Obligations.StepKeepsTheInvariant : Prop :=
  ∀ s t : State, s.Inv → step s = .next t → t.Inv

/-- The reset state satisfies every register invariant (70_reset_and_hazards.md R624). -/
def Obligations.ResetHasTheInvariant : Prop :=
  State.reset.Inv

/-- STICKY (10_state.md R67). -/
def Obligations.StickyAccumulates : Prop :=
  (∀ (w : Word) (s t : State), runWord w s = .next t → t.ERR ≠ 0 → t.statusWord.getLsbD (7 + t.ERR.toNat) = true) ∧
  (∀ (s : State) (w : Word), s.BUSY = true → (s.access (.write 0x008 4 w)).statusWord.getLsbD 12 = true) ∧
  (∀ (s : State) (k : Nat) (v : Word), k < 24 → s.BUSY = true →
    (s.access (.write (BitVec.ofNat 9 (0x100 + 4 * k)) 4 v)).statusWord.getLsbD 12 = true) ∧
  (∀ s t : State, (∀ x ∈ s.turns.head?, clearsSticky x = false) → step s = .next t → s.STICKY &&& t.STICKY = s.STICKY) ∧
  (1#4 = ErrorKind.notInvertible.code ∧ 2#4 = ErrorKind.notASquare.code ∧ 3#4 = ErrorKind.malformedEncoding.code ∧
    4#4 = ErrorKind.illegalCommand.code) ∧
  ∀ (s : State) (v : Word), v.getLsbD 0 = true ∨ v.getLsbD 1 = true → (s.access (.write 0x010 4 v)).STICKY = 0

/-- The host protocol (45_system.md R543) as turns of the model (notes/assumptions/1.md): issue with both its waits, and the loading and reading of BUF. -/
def Obligations.IssueReturnsCodeAndFlag : Prop :=
  (∀ (s u v : State) (first : Option Nat) (w : Word) (n : Nat) (rest : List Turn), s.turns = issue first w n ++ rest →
    AfterWait s first u → runWord w (u.capture w) = .next v →
    (∀ m, first = some m → ∀ k < m, ∃ t : State, Sys2Proof.core.run (k + 1) s = .next t ∧ statusBusy t.readData = true) ∧
    (∃ t : State, Sys2Proof.core.run (wait first).length s = .next t ∧ statusBusy t.readData = false) ∧
    (∀ k < n, ∃ t : State, Sys2Proof.core.run ((wait first).length + 1 + (k + 1)) s = .next t ∧ statusBusy t.readData = true) ∧
    (∃ t : State, Sys2Proof.core.run ((wait first).length + 1 + (n + 2)) s = .next t ∧ statusBusy t.readData = false) ∧
    ∃ t : State, Sys2Proof.core.run (issue first w n).length s = .next t ∧ t.turns = rest ∧ t.BUSY = false ∧ t.PENDING = none ∧
      statusBusy t.readData = false ∧ statusErr t.readData = v.ERR ∧ statusFlag t.readData = v.FLAG ∧
      t.files = v.files ∧ t.FLAG = v.FLAG ∧ t.ERR = v.ERR ∧ t.STICKY = v.STICKY ∧ t.CMD = w) ∧
  (∀ (s : State) (k : Nat) (vs : List Word) (rest : List Turn), s.BUSY = false → Memory.wf s.files.BUF = true →
    k + vs.length ≤ 24 → s.turns = loadBuf k vs ++ rest →
    ∃ t : State, Sys2Proof.core.run vs.length s = .next t ∧
      t = { s with files := { s.files with BUF := t.files.BUF }, turns := rest } ∧
      (∀ j < vs.length, ∀ b < 4, bufByte t.files.BUF (4 * (k + j) + b) = (vs.getD j 0).extractLsb' (8 * b) 8) ∧
      ∀ i, i < 4 * k ∨ 4 * (k + vs.length) ≤ i → bufByte t.files.BUF i = bufByte s.files.BUF i) ∧
  ∀ (s : State) (k n : Nat) (rest : List Turn), s.BUSY = false → k + n ≤ 24 → s.turns = readBuf k n ++ rest → ∀ j < n,
    Sys2Proof.core.run (j + 1) s = .next
      { s with
        turns := readBuf (k + j + 1) (n - j - 1) ++ rest
        readData := BitVec.ofNat 32 (∑ b ∈ Finset.range 4, (bufByte s.files.BUF (4 * (k + j) + b)).toNat * 256 ^ b) }

/-- `NOP` (45_system.md R540). -/
def Obligations.NopOnlyClearsErr : Prop :=
  decode 0x00000000#32 = .ok .nop ∧ (∀ w : Word, decode w = .ok .nop → w = 0) ∧
  (∀ s : State, runWord 0x00000001#32 s = .next (failed s 4)) ∧
  ∀ s : State, exec .nop s = .next (finished s s.files s.FLAG)

/-- The constants, the move and the predicates of Fp (40_fp.md R240 to R244, R252). -/
def Obligations.FpConstantsMovesAndPredicates : Prop :=
  ∀ (s : State) (d a b : FReg),
    decode (word 0x01 d 0 0 0) = .ok (.fpZero d) ∧ exec (.fpZero d) s = .next (putF s d 0) ∧
    decode (word 0x02 d 0 0 0) = .ok (.fpOne d) ∧ exec (.fpOne d) s = .next (putF s d 1) ∧
    decode (word 0x03 d a 0 0) = .ok (.fpMov d a) ∧ exec (.fpMov d a) s = .next (putF s d (s.opF a)) ∧
    decode (word 0x04 0 a 0 0) = .ok (.fpIszero a) ∧ exec (.fpIszero a) s = .next (flagged s (decide (s.opF a = 0))) ∧
    decode (word 0x05 0 a b 0) = .ok (.fpEq a b) ∧ exec (.fpEq a b) s = .next (flagged s (decide (s.opF a = s.opF b))) ∧
    decode (word 0x0D 0 a 0 0) = .ok (.fpLexl a) ∧ exec (.fpLexl a) s = .next (flagged s (decide (s.opF a > (Config.p - 1) / 2)))

/-- Ring arithmetic of Fp as exact integer arithmetic (40_fp.md R245 to R249, R257). -/
def Obligations.FpRingCommandsComputeModP : Prop :=
  ∀ (s : State) (d a b : FReg),
    decode (word 0x06 d a b 0) = .ok (.fpAdd d a b) ∧ exec (.fpAdd d a b) s = .next (putF s d (residue Config.p ((s.opF a : Int) + s.opF b))) ∧
    decode (word 0x07 d a b 0) = .ok (.fpSub d a b) ∧ exec (.fpSub d a b) s = .next (putF s d (residue Config.p ((s.opF a : Int) - s.opF b))) ∧
    decode (word 0x08 d a 0 0) = .ok (.fpNeg d a) ∧ exec (.fpNeg d a) s = .next (putF s d (residue Config.p ((Config.p : Int) - s.opF a))) ∧
    decode (word 0x09 d a b 0) = .ok (.fpMul d a b) ∧ exec (.fpMul d a b) s = .next (putF s d (residue Config.p ((s.opF a : Int) * s.opF b))) ∧
    decode (word 0x0A d a 0 0) = .ok (.fpSqr d a) ∧ exec (.fpSqr d a) s = .next (putF s d (residue Config.p ((s.opF a : Int) ^ 2))) ∧
    exec (.fpSqr d a) s = exec (.fpMul d a a) s

/-- `FP.SOP` (40_fp.md R255). -/
def Obligations.FpSumOfProductsIsExact : Prop :=
  ∀ (s : State) (d a b : FReg) (n : Count),
    (1 ≤ n.val → a.val + n.val ≤ 16 → b.val + n.val ≤ 16 →
      decode (word 0x10 d a b n) = .ok (.fpSop d a b n) ∧
      exec (.fpSop d a b n) s = .next (putF s d (residue Config.p
        (∑ i ∈ Finset.range n, (s.operands.F.toList.getD (a + i) 0 : Int) * s.operands.F.toList.getD (b + i) 0)))) ∧
    (n.val = 1 → exec (.fpSop d a b n) s = exec (.fpMul d a b) s) ∧
    (¬(1 ≤ n.val ∧ a.val + n.val ≤ 16 ∧ b.val + n.val ≤ 16) → runWord (word 0x10 d a b n) s = .next (failed s 4))

/-- `FP.INV` (40_fp.md R250). The premise is the invariant of 10_state.md R59, which StepKeepsTheInvariant states. -/
def Obligations.FpInverseIsTheUniqueInverse : Prop :=
  ∀ (s : State) (d a : FReg), s.opF a < Config.p →
    decode (word 0x0B d a 0 0) = .ok (.fpInv d a) ∧
    (s.opF a = 0 → exec (.fpInv d a) s = .next (failed s 1)) ∧
    (s.opF a ≠ 0 → ∃ v, 1 ≤ v ∧ v < Config.p ∧ s.opF a * v % Config.p = 1 ∧ exec (.fpInv d a) s = .next (putF s d v) ∧
      ∀ v', v' < Config.p → s.opF a * v' % Config.p = 1 → v' = v)

/-- `FP.SQRT` (40_fp.md R251): the check of the candidate rejects exactly the non-residues. -/
def Obligations.FpSquareRootFindsEverySquare : Prop :=
  ∀ (s : State) (d a : FReg), s.opF a < Config.p →
    decode (word 0x0C d a 0 0) = .ok (.fpSqrt d a) ∧
    ((∃ y, y * y % Config.p = s.opF a) →
      exec (.fpSqrt d a) s = .next (putF s d (s.opF a ^ ((Config.p + 1) / 4) % Config.p)) ∧
      (s.opF a ^ ((Config.p + 1) / 4) % Config.p) ^ 2 % Config.p = s.opF a) ∧
    ((¬∃ y, y * y % Config.p = s.opF a) → exec (.fpSqrt d a) s = .next (failed s 2))

/-- The byte codec of Fp (40_fp.md R253, R254). -/
def Obligations.FpByteCodec : Prop :=
  (∀ (s : State) (a : FReg), s.opF a < Config.p → Memory.wf s.files.BUF = true →
    decode (word 0x0E 0 a 0 0) = .ok (.fpTobytes a) ∧
    ∃ m, exec (.fpTobytes a) s = .next (putBuf s m) ∧ HoldsBE m s.files.BUF 48 (s.opF a)) ∧
  (∀ (s : State) (d : FReg), decode (word 0x0F d 0 0 0) = .ok (.fpFrombytes d) ∧
    (beInteger s.operands.BUF 0 48 < Config.p →
      exec (.fpFrombytes d) s = .next (putF s d (beInteger s.operands.BUF 0 48))) ∧
    (Config.p ≤ beInteger s.operands.BUF 0 48 → exec (.fpFrombytes d) s = .next (failed s 3))) ∧
  ∀ (s t : State) (a d : FReg), s.opF a < Config.p → Memory.wf s.files.BUF = true → exec (.fpTobytes a) s = .next t →
    exec (.fpFrombytes d) t = .next (putF t d (s.opF a))

/-- The constants, moves and predicates of Fp2 (41_fp2.md R301 to R308). -/
def Obligations.Fp2ConstantsMovesAndPredicates : Prop :=
  ∀ (s : State) (d a b : EReg) (f g : FReg),
    decode (word 0x20 d 0 0 0) = .ok (.fp2Zero d) ∧ exec (.fp2Zero d) s = .next (putE s d ⟨0, 0⟩) ∧
    decode (word 0x21 d 0 0 0) = .ok (.fp2One d) ∧ exec (.fp2One d) s = .next (putE s d ⟨1, 0⟩) ∧
    decode (word 0x22 d a 0 0) = .ok (.fp2Mov d a) ∧ exec (.fp2Mov d a) s = .next (putE s d (s.opE a)) ∧
    decode (word 0x23 d f g 0) = .ok (.fp2Pack d f g) ∧ exec (.fp2Pack d f g) s = .next (putE s d ⟨s.opF f, s.opF g⟩) ∧
    decode (word 0x24 f a 0 0) = .ok (.fp2C0 f a) ∧ exec (.fp2C0 f a) s = .next (putF s f (s.opE a).c0) ∧
    decode (word 0x25 f a 0 0) = .ok (.fp2C1 f a) ∧ exec (.fp2C1 f a) s = .next (putF s f (s.opE a).c1) ∧
    decode (word 0x26 0 a 0 0) = .ok (.fp2Iszero a) ∧ exec (.fp2Iszero a) s = .next (flagged s (decide (s.opE a = ⟨0, 0⟩))) ∧
    decode (word 0x27 0 a b 0) = .ok (.fp2Eq a b) ∧ exec (.fp2Eq a b) s = .next (flagged s (decide (s.opE a = s.opE b)))

/-- Arithmetic of Fp2 as exact integer arithmetic on components (41_fp2.md R309 to R316). -/
def Obligations.Fp2RingCommandsComputeModP : Prop :=
  ∀ (s : State) (d a b : EReg),
    decode (word 0x28 d a b 0) = .ok (.fp2Add d a b) ∧ exec (.fp2Add d a b) s = .next (putE s d ⟨residue Config.p (((s.opE a).c0 : Int) + ((s.opE b).c0 : Int)), residue Config.p (((s.opE a).c1 : Int) + ((s.opE b).c1 : Int))⟩) ∧
    decode (word 0x29 d a b 0) = .ok (.fp2Sub d a b) ∧ exec (.fp2Sub d a b) s = .next (putE s d ⟨residue Config.p (((s.opE a).c0 : Int) - ((s.opE b).c0 : Int)), residue Config.p (((s.opE a).c1 : Int) - ((s.opE b).c1 : Int))⟩) ∧
    decode (word 0x2A d a 0 0) = .ok (.fp2Neg d a) ∧ exec (.fp2Neg d a) s = .next (putE s d ⟨residue Config.p ((Config.p : Int) - ((s.opE a).c0 : Int)), residue Config.p ((Config.p : Int) - ((s.opE a).c1 : Int))⟩) ∧
    decode (word 0x2B d a b 0) = .ok (.fp2Mul d a b) ∧ exec (.fp2Mul d a b) s = .next (putE s d ⟨residue Config.p (((s.opE a).c0 : Int) * ((s.opE b).c0 : Int) - ((s.opE a).c1 : Int) * ((s.opE b).c1 : Int)), residue Config.p (((s.opE a).c0 : Int) * ((s.opE b).c1 : Int) + ((s.opE a).c1 : Int) * ((s.opE b).c0 : Int))⟩) ∧
    decode (word 0x2C d a 0 0) = .ok (.fp2Sqr d a) ∧ exec (.fp2Sqr d a) s = .next (putE s d ⟨residue Config.p (((s.opE a).c0 : Int) ^ 2 - ((s.opE a).c1 : Int) ^ 2), residue Config.p (2 * ((s.opE a).c0 : Int) * ((s.opE a).c1 : Int))⟩) ∧
    exec (.fp2Sqr d a) s = exec (.fp2Mul d a a) s ∧
    decode (word 0x2D d a 0 0) = .ok (.fp2Conj d a) ∧ exec (.fp2Conj d a) s = .next (putE s d ⟨(s.opE a).c0, residue Config.p ((Config.p : Int) - ((s.opE a).c1 : Int))⟩) ∧
    decode (word 0x2E d a 0 0) = .ok (.fp2Frob d a) ∧ exec (.fp2Frob d a) s = .next (putE s d ⟨(s.opE a).c0, residue Config.p ((Config.p : Int) - ((s.opE a).c1 : Int))⟩) ∧
    decode (word 0x2F d a 0 0) = .ok (.fp2Mulnr d a) ∧ exec (.fp2Mulnr d a) s = .next (putE s d ⟨residue Config.p (((s.opE a).c0 : Int) - ((s.opE a).c1 : Int)), residue Config.p (((s.opE a).c0 : Int) + ((s.opE a).c1 : Int))⟩)

/-- `FP2.INV` (41_fp2.md R317): -1 is a non-residue modulo p, so the norm is 0 only at zero. -/
def Obligations.Fp2InverseIsTheInverse : Prop :=
  ∀ (s : State) (d a : EReg), (s.opE a).c0 < Config.p → (s.opE a).c1 < Config.p →
    decode (word 0x30 d a 0 0) = .ok (.fp2Inv d a) ∧
    (s.opE a = ⟨0, 0⟩ → exec (.fp2Inv d a) s = .next (failed s 1)) ∧
    (s.opE a ≠ ⟨0, 0⟩ → ∃ v : Fp2, v.c0 < Config.p ∧ v.c1 < Config.p ∧ exec (.fp2Inv d a) s = .next (putE s d v) ∧
      residue Config.p (((s.opE a).c0 : Int) * v.c0 - (s.opE a).c1 * v.c1) = 1 ∧
      residue Config.p (((s.opE a).c0 : Int) * v.c1 + (s.opE a).c1 * v.c0) = 0 ∧
      residue Config.p ((v.c0 : Int) * ((s.opE a).c0 ^ 2 + (s.opE a).c1 ^ 2) - (s.opE a).c0) = 0 ∧
      residue Config.p ((v.c1 : Int) * ((s.opE a).c0 ^ 2 + (s.opE a).c1 ^ 2) + (s.opE a).c1) = 0)

/-- `FP2.SQRT` (41_fp2.md R318 with the exponent of 90_conflicts.md C2): complete on squares, and it never returns a wrong value. -/
def Obligations.Fp2SquareRootFindsEverySquare : Prop :=
  ∀ (s : State) (d a : EReg), (s.opE a).c0 < Config.p → (s.opE a).c1 < Config.p →
    decode (word 0x31 d a 0 0) = .ok (.fp2Sqrt d a) ∧
    let a1 := fp2Pow (s.opE a) ((Config.p - 3) / 4)
    let alpha := fp2Mul (fp2Mul a1 a1) (s.opE a)
    let x0 := fp2Mul a1 (s.opE a)
    let root : Fp2 := if alpha = ⟨Config.p - 1, 0⟩ then ⟨(Config.p - x0.c1) % Config.p, x0.c0⟩
      else fp2Mul (fp2Pow (fp2Add alpha ⟨1, 0⟩) ((Config.p - 1) / 2)) x0
    ((∃ y : Fp2, fp2Mul y y = s.opE a) →
      exec (.fp2Sqrt d a) s = .next (putE s d root) ∧ fp2Mul root root = s.opE a ∧ root.c0 < Config.p ∧ root.c1 < Config.p) ∧
    ((¬∃ y : Fp2, fp2Mul y y = s.opE a) → exec (.fp2Sqrt d a) s = .next (failed s 2))

/-- `FP2.POW` (41_fp2.md R319, 40_fp.md R239). -/
def Obligations.Fp2PowerIsTheIteratedProduct : Prop :=
  ∀ (s : State) (d a : EReg) (b : FReg), s.opF b < 2 ^ 384 →
    decode (word 0x32 d a b 0) = .ok (.fp2Pow d a b) ∧ exec (.fp2Pow d a b) s = .next (putE s d ((fun y => fp2Mul y (s.opE a))^[s.opF b] ⟨1, 0⟩))

/-- The constants, the move and the predicates of the scalar field (42_scalar.md R353 to R357). -/
def Obligations.ScConstantsMovesAndPredicates : Prop :=
  ∀ (s : State) (d a b : SReg),
    decode (word 0x40 d 0 0 0) = .ok (.scZero d) ∧ exec (.scZero d) s = .next (putS s d 0) ∧
    decode (word 0x41 d 0 0 0) = .ok (.scOne d) ∧ exec (.scOne d) s = .next (putS s d 1) ∧
    decode (word 0x42 d a 0 0) = .ok (.scMov d a) ∧ exec (.scMov d a) s = .next (putS s d (s.opS a)) ∧
    decode (word 0x43 0 a 0 0) = .ok (.scIszero a) ∧ exec (.scIszero a) s = .next (flagged s (decide (s.opS a = 0))) ∧
    decode (word 0x44 0 a b 0) = .ok (.scEq a b) ∧ exec (.scEq a b) s = .next (flagged s (decide (s.opS a = s.opS b)))

/-- Ring arithmetic of the scalar field as exact integer arithmetic (42_scalar.md R358 to R362, R365). -/
def Obligations.ScRingCommandsComputeModR : Prop :=
  ∀ (s : State) (d a b : SReg),
    decode (word 0x45 d a b 0) = .ok (.scAdd d a b) ∧ exec (.scAdd d a b) s = .next (putS s d (residue Config.r ((s.opS a : Int) + s.opS b))) ∧
    decode (word 0x46 d a b 0) = .ok (.scSub d a b) ∧ exec (.scSub d a b) s = .next (putS s d (residue Config.r ((s.opS a : Int) - s.opS b))) ∧
    decode (word 0x47 d a 0 0) = .ok (.scNeg d a) ∧ exec (.scNeg d a) s = .next (putS s d (residue Config.r ((Config.r : Int) - s.opS a))) ∧
    decode (word 0x48 d a b 0) = .ok (.scMul d a b) ∧ exec (.scMul d a b) s = .next (putS s d (residue Config.r ((s.opS a : Int) * s.opS b))) ∧
    decode (word 0x49 d a 0 0) = .ok (.scSqr d a) ∧ exec (.scSqr d a) s = .next (putS s d (residue Config.r ((s.opS a : Int) ^ 2))) ∧
    exec (.scSqr d a) s = exec (.scMul d a a) s ∧
    decode (word 0x4C d a b 0) = .ok (.scPow d a b) ∧
    (s.opS b < 2 ^ 256 → exec (.scPow d a b) s = .next (putS s d (s.opS a ^ s.opS b % Config.r)))

/-- `SC.INV` (42_scalar.md R363). -/
def Obligations.ScInverseIsTheUniqueInverse : Prop :=
  ∀ (s : State) (d a : SReg), s.opS a < Config.r →
    decode (word 0x4A d a 0 0) = .ok (.scInv d a) ∧
    (s.opS a = 0 → exec (.scInv d a) s = .next (failed s 1)) ∧
    (s.opS a ≠ 0 → ∃ v, 1 ≤ v ∧ v < Config.r ∧ s.opS a * v % Config.r = 1 ∧ exec (.scInv d a) s = .next (putS s d v) ∧
      ∀ v', v' < Config.r → s.opS a * v' % Config.r = 1 → v' = v)

/-- `SC.SQRT` (42_scalar.md R364): Tonelli–Shanks finds a root of every square, and the smaller one is stored. -/
def Obligations.ScSquareRootIsTheSmallerRoot : Prop :=
  ∀ (s : State) (d a : SReg), s.opS a < Config.r →
    decode (word 0x4B d a 0 0) = .ok (.scSqrt d a) ∧
    ((∃ y, y * y % Config.r = s.opS a) →
      ∃ v, v ≤ (Config.r - 1) / 2 ∧ v * v % Config.r = s.opS a ∧ exec (.scSqrt d a) s = .next (putS s d v)) ∧
    ((¬∃ y, y * y % Config.r = s.opS a) → exec (.scSqrt d a) s = .next (failed s 2)) ∧
    ((¬∃ y, y * y % Config.r = s.opS a) ↔ s.opS a ≠ 0 ∧ s.opS a ^ ((Config.r - 1) / 2) % Config.r ≠ 1)

/-- The byte codec of the scalar field (42_scalar.md R366 to R368). -/
def Obligations.ScByteCodec : Prop :=
  (∀ (s : State) (a : SReg), s.opS a < Config.r → Memory.wf s.files.BUF = true →
    decode (word 0x4D 0 a 0 0) = .ok (.scTobytes a) ∧
    ∃ m, exec (.scTobytes a) s = .next (putBuf s m) ∧ Memory.wf m = true ∧
      (∀ k < 32, (bufByte m k).toNat = s.opS a / 256 ^ k % 256) ∧ ∀ k, 32 ≤ k → bufByte m k = bufByte s.files.BUF k) ∧
  ∀ (s : State) (d : SReg), decode (word 0x4E d 0 0 0) = .ok (.scFrombytes d) ∧
    (leInteger s.operands.BUF 0 32 < Config.r →
      exec (.scFrombytes d) s = .next (putS s d (leInteger s.operands.BUF 0 32))) ∧
    (Config.r ≤ leInteger s.operands.BUF 0 32 → exec (.scFrombytes d) s = .next (failed s 3)) ∧
    decode (word 0x4F d 0 0 0) = .ok (.scFromwide d) ∧
    exec (.scFromwide d) s = .next (putS s d (leInteger s.operands.BUF 0 64 % Config.r))

/-- The constants, moves and coordinates of affine points (43_affine.md R403 to R409). -/
def Obligations.PaConstantsMovesAndCoordinates : Prop :=
  ∀ (s : State) (d a : AReg) (f g : FReg),
    decode (word 0x60 d 0 0 0) = .ok (.paIdentity d) ∧ exec (.paIdentity d) s = .next (putA s d ⟨0, 1, true⟩) ∧
    decode (word 0x61 d 0 0 0) = .ok (.paGen d) ∧ exec (.paGen d) s = .next (putA s d ⟨Config.gx, Config.gy, false⟩) ∧
    decode (word 0x62 d a 0 0) = .ok (.paMov d a) ∧ exec (.paMov d a) s = .next (putA s d (s.opA a)) ∧
    decode (word 0x63 d f g 0) = .ok (.paSet d f g) ∧ exec (.paSet d f g) s = .next (putA s d ⟨s.opF f, s.opF g, false⟩) ∧
    decode (word 0x64 f a 0 0) = .ok (.paGetx f a) ∧ exec (.paGetx f a) s = .next (putF s f (s.opA a).x) ∧
    decode (word 0x65 f a 0 0) = .ok (.paGety f a) ∧ exec (.paGety f a) s = .next (putF s f (s.opA a).y) ∧
    decode (word 0x66 0 a 0 0) = .ok (.paIsid a) ∧ exec (.paIsid a) s = .next (flagged s (s.opA a).inf)

/-- The predicates and maps of affine points (43_affine.md R410 to R414). -/
def Obligations.PaPredicatesAndMaps : Prop :=
  (∀ (s : State) (d a b : AReg),
    decode (word 0x67 0 a 0 0) = .ok (.paOncurve a) ∧ exec (.paOncurve a) s = .next (flagged s ((s.opA a).inf || decide (residue Config.p (((s.opA a).y : Int) ^ 2 - ((s.opA a).x : Int) ^ 3) = 4))) ∧
    decode (word 0x68 0 a 0 0) = .ok (.paTorsionfree a) ∧ exec (.paTorsionfree a) s = .next (flagged s (projEq (projNeg (mulByX (mulByX (promote (s.opA a))))) (promote (endo (s.opA a))))) ∧
    decode (word 0x69 0 a b 0) = .ok (.paEq a b) ∧ exec (.paEq a b) s = .next (flagged s (((s.opA a).inf && (s.opA b).inf) || (!(s.opA a).inf && !(s.opA b).inf &&
      decide ((s.opA a).x = (s.opA b).x) && decide ((s.opA a).y = (s.opA b).y)))) ∧
    decode (word 0x6B d a 0 0) = .ok (.paEndo d a) ∧ exec (.paEndo d a) s = .next (putA s d ⟨residue Config.p (((s.opA a).x : Int) * Config.beta), (s.opA a).y, (s.opA a).inf⟩) ∧
    decode (word 0x6A d a 0 0) = .ok (.paNeg d a) ∧ exec (.paNeg d a) s = .next (putA s d
      ⟨(s.opA a).x, if (s.opA a).inf then 1 else residue Config.p ((Config.p : Int) - (s.opA a).y), (s.opA a).inf⟩)) ∧
  ∀ A : Affine, A.x < Config.p → A.y < Config.p → (A.inf = true → A = ⟨0, 1, true⟩) →
    endo (endo (endo A)) = A ∧ affNeg (affNeg A) = A

/-- The conversions between the two forms of a point (43_affine.md R415, 44_projective.md R476, R477, R490). -/
def Obligations.PointConversions : Prop :=
  (∀ (s : State) (d : PReg) (a : AReg), decode (word 0x87 d a 0 0) = .ok (.ppFromaff d a) ∧
    exec (.ppFromaff d a) s = .next (putP s d ⟨(s.opA a).x, (s.opA a).y, if (s.opA a).inf then 0 else 1⟩)) ∧
  ∀ (s : State) (d : AReg) (a : PReg), (s.opP a).X < Config.p → (s.opP a).Y < Config.p → (s.opP a).Z < Config.p →
    decode (word 0x6C d a 0 0) = .ok (.paFromproj d a) ∧
    ((s.opP a).Z = 0 → exec (.paFromproj d a) s = .next (putA s d ⟨0, 1, true⟩)) ∧
    ((s.opP a).Z ≠ 0 → ∃ x y, x < Config.p ∧ y < Config.p ∧ x * (s.opP a).Z % Config.p = (s.opP a).X ∧
      y * (s.opP a).Z % Config.p = (s.opP a).Y ∧ exec (.paFromproj d a) s = .next (putA s d ⟨x, y, false⟩) ∧
      ∀ x', x' < Config.p → (x' * (s.opP a).Z % Config.p = (s.opP a).X → x' = x) ∧
        (x' * (s.opP a).Z % Config.p = (s.opP a).Y → x' = y))

/-- The two point encoders (43_affine.md R418, R419) against the formats R401 and R402, as one big-endian integer each. -/
def Obligations.PointEncodersWriteTheFormats : Prop :=
  ∀ (s : State) (a : AReg), (s.opA a).x < Config.p → (s.opA a).y < Config.p → Memory.wf s.files.BUF = true →
    decode (word 0x6F 0 a 0 0) = .ok (.paTocomp a) ∧ decode (word 0x70 0 a 0 0) = .ok (.paTouncomp a) ∧
    (∃ m, exec (.paTocomp a) s = .next (putBuf s m) ∧ HoldsBE m s.files.BUF 48
      (if (s.opA a).inf then 2 ^ 383 + 2 ^ 382
        else (s.opA a).x + 2 ^ 383 + if (s.opA a).y > (Config.p - 1) / 2 then 2 ^ 381 else 0)) ∧
    ∃ m, exec (.paTouncomp a) s = .next (putBuf s m) ∧ HoldsBE m s.files.BUF 96
      (if (s.opA a).inf then 2 ^ 766 else (s.opA a).x * 2 ^ 384 + (s.opA a).y)

/-- The unchecked decoders (43_affine.md R420, R421, R423, R424, with 90_conflicts.md C3) as the set of inputs they accept. That a root with the sort flag's sign exists rests on x^3 + 4 having no root in Fp (R420). -/
def Obligations.UncheckedPointDecoders : Prop :=
  ∀ (s : State) (d : AReg),
    let N := beInteger s.operands.BUF 0 48
    let y2 := beInteger s.operands.BUF 48 48
    let x := N % 2 ^ 381
    let C := N.testBit 383
    let I := N.testBit 382
    let S := N.testBit 381
    decode (word 0x72 d 0 0 0) = .ok (.paFromcompu d) ∧ decode (word 0x74 d 0 0 0) = .ok (.paFromuncompu d) ∧
    (C = true → I = true → S = false → x = 0 → exec (.paFromcompu d) s = .next (putA s d ⟨0, 1, true⟩)) ∧
    (C = true → I = false → x < Config.p → (∃ y, y * y % Config.p = (x ^ 3 + 4) % Config.p) →
      ∃ y, y < Config.p ∧ y * y % Config.p = (x ^ 3 + 4) % Config.p ∧ decide (y > (Config.p - 1) / 2) = S ∧
        exec (.paFromcompu d) s = .next (putA s d ⟨x, y, false⟩)) ∧
    (¬(C = true ∧ I = true ∧ S = false ∧ x = 0) →
      ¬(C = true ∧ I = false ∧ x < Config.p ∧ ∃ y, y * y % Config.p = (x ^ 3 + 4) % Config.p) →
      exec (.paFromcompu d) s = .next (failed s 3)) ∧
    (C = false → I = false → S = false → x < Config.p → y2 < Config.p →
      exec (.paFromuncompu d) s = .next (putA s d ⟨x, y2, false⟩)) ∧
    (C = false → I = true → S = false → x = 0 → y2 = 0 → exec (.paFromuncompu d) s = .next (putA s d ⟨0, 1, true⟩)) ∧
    (¬(C = false ∧ I = false ∧ S = false ∧ x < Config.p ∧ y2 < Config.p) →
      ¬(C = false ∧ I = true ∧ S = false ∧ x = 0 ∧ y2 = 0) → exec (.paFromuncompu d) s = .next (failed s 3))

/-- The checked decoders (43_affine.md R422, R425). -/
def Obligations.CheckedDecodersValidate : Prop :=
  ∀ (s : State) (d : AReg),
    decode (word 0x71 d 0 0 0) = .ok (.paFromcomp d) ∧ decode (word 0x73 d 0 0 0) = .ok (.paFromuncomp d) ∧
    (∀ q, decodeCompressedUnchecked (s.opBuf 48) = some q → affOnCurve q = true → torsionFree q = true →
      exec (.paFromcomp d) s = .next (putA s d q)) ∧
    (∀ q, decodeCompressedUnchecked (s.opBuf 48) = some q → affOnCurve q = false ∨ torsionFree q = false →
      exec (.paFromcomp d) s = .next (failed s 3)) ∧
    (decodeCompressedUnchecked (s.opBuf 48) = none → exec (.paFromcomp d) s = .next (failed s 3)) ∧
    (∀ q, decodeUncompressedUnchecked (s.opBuf 96) = some q → affOnCurve q = true → torsionFree q = true →
      exec (.paFromuncomp d) s = .next (putA s d q)) ∧
    (∀ q, decodeUncompressedUnchecked (s.opBuf 96) = some q → affOnCurve q = false ∨ torsionFree q = false →
      exec (.paFromuncomp d) s = .next (failed s 3)) ∧
    (decodeUncompressedUnchecked (s.opBuf 96) = none → exec (.paFromuncomp d) s = .next (failed s 3))

/-- The round-trip laws of the point codec (43_affine.md R426). -/
def Obligations.CodecRoundTrips : Prop :=
  ∀ A : Affine, A.x < Config.p → A.y < Config.p → (A.inf = true → A = ⟨0, 1, true⟩) →
    decodeUncompressedUnchecked (encodeUncompressed A) = some A ∧
    (affOnCurve A = true → decodeCompressedUnchecked (encodeCompressed A) = some A) ∧
    (affOnCurve A = true → torsionFree A = true → validated (decodeCompressedUnchecked (encodeCompressed A)) = some A ∧
      validated (decodeUncompressedUnchecked (encodeUncompressed A)) = some A) ∧
    (affOnCurve A = false → decodeCompressedUnchecked (encodeCompressed A) ≠ some A)

/-- The constants, moves and coordinates of projective points (44_projective.md R483 to R489, R491). -/
def Obligations.PpConstantsMovesAndCoordinates : Prop :=
  ∀ (s : State) (d a : PReg) (f g h : FReg),
    decode (word 0x80 d 0 0 0) = .ok (.ppIdentity d) ∧ exec (.ppIdentity d) s = .next (putP s d ⟨0, 1, 0⟩) ∧
    decode (word 0x81 d 0 0 0) = .ok (.ppGen d) ∧ exec (.ppGen d) s = .next (putP s d ⟨Config.gx, Config.gy, 1⟩) ∧
    decode (word 0x82 d a 0 0) = .ok (.ppMov d a) ∧ exec (.ppMov d a) s = .next (putP s d (s.opP a)) ∧
    decode (word 0x83 d f g h) = .ok (.ppSet d f g h) ∧ exec (.ppSet d f g h) s = .next (putP s d ⟨s.opF f, s.opF g, s.opF h⟩) ∧
    decode (word 0x84 f a 0 0) = .ok (.ppGetx f a) ∧ exec (.ppGetx f a) s = .next (putF s f (s.opP a).X) ∧
    decode (word 0x85 f a 0 0) = .ok (.ppGety f a) ∧ exec (.ppGety f a) s = .next (putF s f (s.opP a).Y) ∧
    decode (word 0x86 f a 0 0) = .ok (.ppGetz f a) ∧ exec (.ppGetz f a) s = .next (putF s f (s.opP a).Z) ∧
    decode (word 0x88 0 a 0 0) = .ok (.ppIsid a) ∧ exec (.ppIsid a) s = .next (flagged s (decide ((s.opP a).Z = 0)))

/-- The predicates and the negation of projective points (44_projective.md R475, R478, R482, R492 to R494). -/
def Obligations.PpPredicatesAndNegation : Prop :=
  ∀ (s : State) (d a b : PReg),
    decode (word 0x89 0 a 0 0) = .ok (.ppOncurve a) ∧ exec (.ppOncurve a) s = .next (flagged s (decide ((s.opP a).Z = 0) ||
      decide ((s.opP a).Y ^ 2 * (s.opP a).Z % Config.p = ((s.opP a).X ^ 3 + 4 * (s.opP a).Z ^ 3) % Config.p))) ∧
    decode (word 0x8A 0 a b 0) = .ok (.ppEq a b) ∧ exec (.ppEq a b) s = .next (flagged s ((decide ((s.opP a).Z = 0) && decide ((s.opP b).Z = 0)) ||
      (decide ((s.opP a).Z ≠ 0) && decide ((s.opP b).Z ≠ 0) && decide ((s.opP a).X * (s.opP b).Z % Config.p = (s.opP b).X * (s.opP a).Z % Config.p) &&
        decide ((s.opP a).Y * (s.opP b).Z % Config.p = (s.opP b).Y * (s.opP a).Z % Config.p)))) ∧
    decode (word 0x8B d a 0 0) = .ok (.ppNeg d a) ∧ exec (.ppNeg d a) s = .next (putP s d ⟨(s.opP a).X, residue Config.p ((Config.p : Int) - (s.opP a).Y), (s.opP a).Z⟩)

/-- The step-by-step formulas of 44_projective.md R472 to R474 against their closed forms, so that no step can be out of order. The closed forms are Renes, Costello and Batina's, worked out by hand. -/
def Obligations.PointAddersComputeTheFormulas : Prop :=
  ∀ (s : State) (d a b : PReg) (e f : AReg),
    decode (word 0x8C d a 0 0) = .ok (.ppDbl d a) ∧ exec (.ppDbl d a) s = .next (putP s d (if (s.opP a).Z = 0 then ⟨0, 1, 0⟩ else doubleFormula (s.opP a).X (s.opP a).Y (s.opP a).Z)) ∧
    decode (word 0x8D d a b 0) = .ok (.ppAdd d a b) ∧ exec (.ppAdd d a b) s = .next (putP s d (addFormula (s.opP a).X (s.opP a).Y (s.opP a).Z (s.opP b).X (s.opP b).Y (s.opP b).Z)) ∧
    decode (word 0x8E d a b 0) = .ok (.ppSub d a b) ∧ exec (.ppSub d a b) s = .next (putP s d (addFormula (s.opP a).X (s.opP a).Y (s.opP a).Z (s.opP b).X (Config.p - (s.opP b).Y) (s.opP b).Z)) ∧
    decode (word 0x8F d a f 0) = .ok (.ppAddm d a f) ∧ exec (.ppAddm d a f) s = .next (putP s d
      (if (s.opA f).inf then s.opP a else addFormula (s.opP a).X (s.opP a).Y (s.opP a).Z (s.opA f).x (s.opA f).y 1)) ∧
    decode (word 0x6D d e f 0) = .ok (.paAdd d e f) ∧ exec (.paAdd d e f) s = .next (putP s d
      (if (s.opA f).inf then ⟨(s.opA e).x, (s.opA e).y, if (s.opA e).inf then 0 else 1⟩
        else addFormula (s.opA e).x (s.opA e).y (if (s.opA e).inf then 0 else 1) (s.opA f).x (s.opA f).y 1))

/-- The scalar multiplier and the multiply-by-x chain (44_projective.md R479 to R481), each by a recursion of its own. -/
def Obligations.ScalarMultipliersDoubleAndAdd : Prop :=
  (∀ (s : State) (d a : PReg) (e : AReg) (b : SReg),
    decode (word 0x90 d a b 0) = .ok (.ppMul d a b) ∧
    exec (.ppMul d a b) s = .next (putP s d (scalarMul (s.opP a) (s.opS b))) ∧
    decode (word 0x6E d e b 0) = .ok (.paMul d e b) ∧
    exec (.paMul d e b) s = .next (putP s d (scalarMul (promote (s.opA e)) (s.opS b))) ∧
    decode (word 0x91 d a 0 0) = .ok (.ppClearcof d a) ∧
    exec (.ppClearcof d a) s = .next (putP s d (projAdd (s.opP a) (projNeg (mulByX (s.opP a)))))) ∧
  (∀ P : Proj, scalarMul P 0 = ⟨0, 1, 0⟩ ∧ ∀ k, k < 2 ^ 254 →
    scalarMul P (2 * k) = projDouble (scalarMul P k) ∧ scalarMul P (2 * k + 1) = projAdd (projDouble (scalarMul P k)) P) ∧
  (projDouble ⟨0, 1, 0⟩ = ⟨0, 1, 0⟩ ∧ ∀ (P : Proj) (k : Nat), k < 2 ^ 255 → scalarMulLoop P k 256 ⟨0, 1, 0⟩ = scalarMul P k) ∧
  ∀ P : Proj, mulByX P = projNeg (projAdd (projAdd (projAdd (projAdd (projAdd (projAdd ⟨0, 1, 0⟩ (projDouble^[16] P))
    (projDouble^[48] P)) (projDouble^[57] P)) (projDouble^[60] P)) (projDouble^[62] P)) (projDouble^[63] P))

/-- `PP.BATCHNORM` (44_projective.md R501) and the equality of its datapath with the architectural result. -/
def Obligations.BatchNormalizationIsPointwise : Prop :=
  (∀ (s : State) (d : AReg) (a : PReg) (n : Count),
    (1 ≤ n.val → d.val + n.val ≤ 8 → a.val + n.val ≤ 8 →
      decode (word 0x92 d a 0 n) = .ok (.ppBatchnorm d a n) ∧
      ∃ V : Vector Affine 8, exec (.ppBatchnorm d a n) s = .next (finished s { s.files with A := V } s.FLAG) ∧
        ∀ i : Fin 8, V[i] = if d.val ≤ i.val ∧ i.val < d.val + n.val
          then toAffine (s.operands.P.toList.getD (a.val + (i.val - d.val)) ⟨0, 1, 0⟩) else s.files.A[i]) ∧
    (¬(1 ≤ n.val ∧ d.val + n.val ≤ 8 ∧ a.val + n.val ≤ 8) → runWord (word 0x92 d a 0 n) s = .next (failed s 4))) ∧
  ∀ Ps : List Proj, (∀ P ∈ Ps, P.X < Config.p ∧ P.Y < Config.p ∧ P.Z < Config.p) → batchNormalize Ps = Ps.map toAffine

/-- The group-law properties of 44_projective.md R502 against Mathlib's group of points. p is prime (00_scope.md R8), which Laws/Primes.lean proves. -/
def Obligations.PointFunctionsAreTheGroupLaw : Prop :=
  ∀ [Fact (Nat.Prime Config.p)] (P Q : Proj) (U V : Spec.curve.Point), Represents P U → Represents Q V →
    Represents (projAdd P Q) (U + V) ∧ Represents (projDouble P) (U + U) ∧ Represents (projNeg P) (-U) ∧
    (∀ A : Affine, Represents (promote A) V → Represents (projAddMixed P A) (U + V)) ∧
    (∀ k, k < 2 ^ 255 → Represents (scalarMul P k) (k • U)) ∧
    Represents (mulByX P) (-(Config.xAbs • U)) ∧ Represents (clearCofactor P) ((Config.xAbs + 1) • U)

/-- The constants of 00_scope.md section 4 and of 40_fp.md R235 and 42_scalar.md R352, which the spec supplies from general knowledge (93_implementation_defined.md K1 to K8). -/
def Obligations.FixedConstantsHaveTheirProperties : Prop :=
  (2 ^ 380 ≤ Config.p ∧ Config.p < 2 ^ 381 ∧ Config.p % 4 = 3 ∧ 2 ^ 254 ≤ Config.r ∧ Config.r < 2 ^ 255 ∧
    Config.r = Config.xAbs ^ 4 - Config.xAbs ^ 2 + 1 ∧ 3 * (Config.p + Config.xAbs) = (Config.xAbs + 1) ^ 2 * Config.r) ∧
  (Config.beta ^ 3 % Config.p = 1 ∧ 1 < Config.beta ∧ Config.beta < Config.p) ∧
  (affOnCurve ⟨Config.gx, Config.gy, false⟩ = true ∧ torsionFree ⟨Config.gx, Config.gy, false⟩ = true ∧
    (scalarMul ⟨Config.gx, Config.gy, 1⟩ Config.r).Z = 0 ∧
    projEq (promote (endo ⟨Config.gx, Config.gy, false⟩))
      (scalarMul ⟨Config.gx, Config.gy, 1⟩ (Config.r - Config.xAbs ^ 2 % Config.r)) = true) ∧
  (Config.invP * Config.p % 2 ^ 64 = 2 ^ 64 - 1 ∧ Config.invR * Config.r % 2 ^ 64 = 2 ^ 64 - 1 ∧
    ofLimbs Config.radixP = 2 ^ 384 % Config.p ∧ ofLimbs Config.radixP2 = 2 ^ 768 % Config.p ∧
    ofLimbs Config.radixP3 = 2 ^ 1152 % Config.p ∧ ofLimbs Config.radixR = 2 ^ 256 % Config.r ∧
    ofLimbs Config.radixR2 = 2 ^ 512 % Config.r ∧ ofLimbs Config.radixR3 = 2 ^ 768 % Config.r)

/-- The reducer of 40_fp.md R232 and 42_scalar.md R351 by its property R233. -/
def Obligations.MontgomeryReducerDividesByTheRadix : Prop :=
  ∀ M ∈ [montP, montR], ∀ T, T < M.modulus * M.radix →
    montRed M T < M.modulus ∧ montRed M T * M.radix % M.modulus = T % M.modulus ∧
    montRounds M T M.limbCount / M.radix < 2 * M.modulus ∧ montRounds M T M.limbCount % M.radix = 0

/-- The internal datapath of 40_fp.md R231 to R238 and 42_scalar.md R351, R352 refines the canonical arithmetic of the commands. -/
def Obligations.MontgomeryDatapathComputesTheCommands : Prop :=
  (∀ M ∈ [montP, montR], ∀ a b, a < M.modulus → b < M.modulus →
    montMul M (montForm M a) (montForm M b) = montForm M (a * b % M.modulus) ∧ montRed M (montForm M a) = a ∧
    modAdd M.modulus (montForm M a) (montForm M b) = montForm M (addMod M.modulus a b) ∧
    modSub M.modulus (montForm M a) (montForm M b) = montForm M (subMod M.modulus a b) ∧
    modNeg M.modulus (montForm M a) = montForm M (negMod M.modulus a) ∧
    modAdd M.modulus a b = addMod M.modulus a b ∧ modSub M.modulus a b = subMod M.modulus a b ∧
    modNeg M.modulus a = negMod M.modulus a) ∧
  (∀ v, v < Config.p → enterP v = montForm montP v ∧ leaveP (enterP v) = v) ∧
  (∀ pairs : List (Nat × Nat), pairs.length ≤ 15 → (∀ q ∈ pairs, q.1 < Config.p ∧ q.2 < Config.p) →
    montSop (pairs.map fun q => (montForm montP q.1, montForm montP q.2)) = montForm montP (fpSumOfProducts pairs)) ∧
  ∀ d0 d1, d0 < 2 ^ 256 → d1 < 2 ^ 256 → wideReduceR d0 d1 = montForm montR ((d0 + d1 * 2 ^ 256) % Config.r)

/-- The ByteCodec helpers and the limb order (20_memory.md R135 to R140). -/
def Obligations.ByteCodecHelpersRoundTrip : Prop :=
  (∀ (v : BitVec 64) (i : Nat), i < 8 →
    (u64ToBe8 v).getD i 0 = v.extractLsb' (56 - 8 * i) 8 ∧ (u64ToLe8 v).getD i 0 = v.extractLsb' (8 * i) 8) ∧
  (∀ v : BitVec 64, (u64ToBe8 v).length = 8 ∧ (u64ToLe8 v).length = 8 ∧ be8ToU64 (u64ToBe8 v) = v ∧ le8ToU64 (u64ToLe8 v) = v) ∧
  (∀ bs : List Byte, bs.length = 8 →
    (be8ToU64 bs).toNat = ∑ i ∈ Finset.range 8, (bs.getD i 0).toNat * 256 ^ (7 - i) ∧
    (le8ToU64 bs).toNat = ∑ i ∈ Finset.range 8, (bs.getD i 0).toNat * 256 ^ i) ∧
  ∀ v : Nat, fpLimbBytes v = beBytes 48 v ∧ scalarLimbBytes v = leBytes 32 v ∧
    ∀ n i, i < n → (limbs n v).getD i 0 = BitVec.ofNat 64 (v / 2 ^ (64 * i))
end

