-- ==== Sys2Proof/Laws/Bytes.lean ====
section
/-! SUPPORT. Laws/Bytes.lean: byte sequences and the integers they stand for: lengths, bounds, and the two round trips. -/

namespace Sys2Proof.Machine

@[simp] theorem length_leBytes (n v : Nat) : (leBytes n v).length = n := by
  induction n generalizing v with
  | zero => rfl
  | succ n ih => simp [leBytes, ih]

@[simp] theorem length_beBytes (n v : Nat) : (beBytes n v).length = n := by simp [beBytes]

/-- Byte i of the little-endian sequence is digit i in base 256. -/
theorem getD_leBytes {n v i : Nat} (hi : i < n) : (leBytes n v).getD i 0 = BitVec.ofNat 8 (v / 256 ^ i) := by
  induction n generalizing v i with
  | zero => omega
  | succ n ih =>
    cases i with
    | zero => simp [leBytes]
    | succ i => rw [leBytes, List.getD_cons_succ, ih (by omega), Nat.div_div_eq_div_mul, Nat.pow_succ, Nat.mul_comm 256]

/-- Byte i of the big-endian sequence is digit `n - 1 - i` in base 256. -/
theorem getD_beBytes {n v i : Nat} (hi : i < n) : (beBytes n v).getD i 0 = BitVec.ofNat 8 (v / 256 ^ (n - 1 - i)) := by
  have h := getD_leBytes (n := n) (v := v) (i := n - 1 - i) (by omega)
  rw [List.getD_eq_getElem _ _ (by simp; omega)] at h
  rw [beBytes, List.getD_eq_getElem _ _ (by simpa using hi), List.getElem_reverse, ← h]
  simp

/-- The little-endian integer of n bytes is below `256^n`. -/
theorem leInt_lt (bs : List Byte) : leInt bs < 256 ^ bs.length := by
  induction bs with
  | nil => simp [leInt]
  | cons v bs ih => simp only [leInt, List.length_cons, Nat.pow_succ]; have := v.isLt; omega

theorem beInt_lt (bs : List Byte) : beInt bs < 256 ^ bs.length := by simpa [beInt] using leInt_lt bs.reverse

/-- `le_int(le_bytes_n(v)) = v mod 256^n`. -/
theorem leInt_leBytes_mod (n v : Nat) : leInt (leBytes n v) = v % 256 ^ n := by
  induction n generalizing v with
  | zero => simp [leBytes, leInt, Nat.mod_one]
  | succ n ih =>
    rw [leBytes, leInt, ih, BitVec.toNat_ofNat, Nat.pow_succ' (m := 256), Nat.mod_mul]

theorem leInt_leBytes {n v : Nat} (h : v < 256 ^ n) : leInt (leBytes n v) = v := by
  rw [leInt_leBytes_mod, Nat.mod_eq_of_lt h]

theorem beInt_beBytes {n v : Nat} (h : v < 256 ^ n) : beInt (beBytes n v) = v := by
  rw [beInt, beBytes, List.reverse_reverse, leInt_leBytes h]

/-- A sequence is the encoding of its own integer. -/
theorem leBytes_leInt (bs : List Byte) : leBytes bs.length (leInt bs) = bs := by
  induction bs with
  | nil => rfl
  | cons v bs ih =>
    have hv := v.isLt
    simp only [List.length_cons, leBytes, leInt]
    rw [show (v.toNat + 256 * leInt bs) / 256 = leInt bs by omega, ih]
    congr 1
    apply BitVec.eq_of_toNat_eq
    simp only [BitVec.toNat_ofNat]
    omega

theorem beBytes_beInt (bs : List Byte) : beBytes bs.length (beInt bs) = bs := by
  have h := leBytes_leInt bs.reverse
  rw [List.length_reverse] at h
  rw [beBytes, beInt, h, List.reverse_reverse]

/-- The little-endian integer as a sum over its bytes (00_scope.md R20). -/
theorem leInt_eq_sum (bs : List Byte) : leInt bs = ∑ i ∈ Finset.range bs.length, (bs.getD i 0).toNat * 256 ^ i := by
  induction bs with
  | nil => rfl
  | cons v bs ih =>
    rw [leInt, List.length_cons, Finset.sum_range_succ', ih, Finset.mul_sum, Nat.add_comm]
    simp only [List.getD_cons_succ, List.getD_cons_zero, Nat.pow_zero, Nat.mul_one, Nat.pow_succ]
    congr 1
    exact Finset.sum_congr rfl fun i _ => by ring

/-- The big-endian integer as a sum over its bytes (00_scope.md R20). -/
theorem beInt_eq_sum (bs : List Byte) :
    beInt bs = ∑ i ∈ Finset.range bs.length, (bs.getD i 0).toNat * 256 ^ (bs.length - 1 - i) := by
  rw [beInt, leInt_eq_sum, List.length_reverse, ← Finset.sum_range_reflect]
  refine Finset.sum_congr rfl fun i hi => ?_
  have hi := Finset.mem_range.1 hi
  rw [List.getD_eq_getElem _ _ (by simp; omega), List.getD_eq_getElem _ _ hi, List.getElem_reverse]
  simp only [show bs.length - 1 - (bs.length - 1 - i) = i by omega]

@[simp] theorem length_orFirst (m : Byte) (bs : List Byte) : (orFirst m bs).length = bs.length := by
  cases bs <;> rfl

@[simp] theorem length_dropFlags (bs : List Byte) : (dropFlags bs).length = bs.length := by cases bs <;> rfl

@[simp] theorem length_encodeCompressed (A : Affine) : (encodeCompressed A).length = 48 := by
  unfold encodeCompressed
  dsimp only
  split <;> split <;> simp

@[simp] theorem length_encodeUncompressed (A : Affine) : (encodeUncompressed A).length = 96 := by
  unfold encodeUncompressed
  dsimp only
  split <;> simp

end Sys2Proof.Machine
end

