-- ==== Sys2Proof/Laws/Encoding.lean ====
section
/-! SUPPORT. Laws/Encoding.lean: a word and its fields carry the same bits (30_encoding.md R171). -/

namespace Sys2Proof

/-- A bit of a packed word, by the field it falls in. -/
theorem getLsbD_pack (x : Fields) (i : Nat) : (pack x).getLsbD i =
    if i < 8 then x.z.getLsbD i else if i < 12 then x.c.getLsbD (i - 8) else if i < 16 then x.b.getLsbD (i - 12)
    else if i < 20 then x.a.getLsbD (i - 16) else if i < 24 then x.d.getLsbD (i - 20) else x.op.getLsbD (i - 24) := by
  change BitVec.getLsbD (w := 8 + 4 + 4 + 4 + 4 + 8) (x.op ++ x.d ++ x.a ++ x.b ++ x.c ++ x.z) i = _
  simp only [BitVec.getLsbD_append]
  split_ifs <;> first | rfl | omega

/-- The fields of a packed word. -/
theorem fieldsOf_pack (x : Fields) : fieldsOf (pack x) = x := by
  obtain ⟨op, d, a, b, c, z⟩ := x
  simp only [fieldsOf, Fields.mk.injEq]
  refine ⟨?_, ?_, ?_, ?_, ?_, ?_⟩ <;> refine BitVec.eq_of_getLsbD_eq fun i hi => ?_ <;>
    rw [BitVec.getLsbD_extractLsb', getLsbD_pack] <;> simp only [hi, decide_true, Bool.true_and] <;>
    split_ifs <;> first | omega | (congr 1; omega)

/-- A word is its fields packed. -/
theorem pack_fieldsOf (w : Word) : pack (fieldsOf w) = w := by
  refine BitVec.eq_of_getLsbD_eq fun i hi => ?_
  rw [getLsbD_pack]
  simp only [fieldsOf, BitVec.getLsbD_extractLsb']
  split_ifs <;> rw [decide_eq_true (by omega), Bool.true_and] <;> congr 1 <;> omega

/-- The field of an index or a count has its value. -/
theorem toNat_field4 {n : Nat} (h : n < 16) : (field4 n).toNat = n := by
  simp [field4, Nat.mod_eq_of_lt h]

end Sys2Proof
end

