-- ==== Sys2Proof/Laws/Modular.lean ====
section
/-! SUPPORT. Laws/Modular.lean: what the modular operations compute, as residues and in `ZMod m`, and what square-and-multiply
computes in any monoid. -/

namespace Sys2Proof.Machine

/-! ## Results are canonical -/

theorem addMod_lt {m : Nat} (hm : 0 < m) (a b : Nat) : addMod m a b < m := Nat.mod_lt _ hm
theorem subMod_lt {m : Nat} (hm : 0 < m) (a b : Nat) : subMod m a b < m := Nat.mod_lt _ hm
theorem negMod_lt {m : Nat} (hm : 0 < m) (a : Nat) : negMod m a < m := Nat.mod_lt _ hm
theorem mulMod_lt {m : Nat} (hm : 0 < m) (a b : Nat) : mulMod m a b < m := Nat.mod_lt _ hm

theorem p_pos : 0 < Config.p := by decide
theorem r_pos : 0 < Config.r := by decide

/-! ## In ZMod m -/

theorem cast_addMod (m a b : Nat) : ((addMod m a b : Nat) : ZMod m) = a + b := by simp [addMod]

theorem cast_mulMod (m a b : Nat) : ((mulMod m a b : Nat) : ZMod m) = a * b := by simp [mulMod]

theorem cast_subMod {m : Nat} (hm : 0 < m) (a b : Nat) : ((subMod m a b : Nat) : ZMod m) = a - b := by
  have hb : b % m ≤ m := (Nat.mod_lt _ hm).le
  simp [subMod, Nat.cast_sub hb, sub_eq_add_neg]

theorem cast_negMod {m : Nat} (hm : 0 < m) (a : Nat) : ((negMod m a : Nat) : ZMod m) = -a := by
  have ha : a % m ≤ m := (Nat.mod_lt _ hm).le
  simp [negMod, Nat.cast_sub ha]

/-- Canonical values that are equal in `ZMod m` are equal. -/
theorem eq_of_cast_eq {m a b : Nat} (ha : a < m) (hb : b < m) (h : (a : ZMod m) = b) : a = b :=
  Nat.ModEq.eq_of_lt_of_lt ((ZMod.natCast_eq_natCast_iff a b m).1 h) ha hb

/-! ## As residues of integers -/

/-- `subMod` is the residue of the integer difference. -/
theorem subMod_eq_emod {m : Nat} (hm : 0 < m) (a b : Nat) : ((subMod m a b : Nat) : Int) = ((a : Int) - b) % m := by
  have hb : b % m ≤ m := (Nat.mod_lt _ hm).le
  simp only [subMod, Int.natCast_emod, Nat.cast_add, Nat.cast_sub hb]
  rw [show (a : Int) + (m - (b : Int) % m) = a - (b : Int) % m + m by ring, Int.add_emod_right, Int.sub_emod_emod]

/-- `negMod` is the residue of the integer `m - a`. -/
theorem negMod_eq_emod {m : Nat} (hm : 0 < m) (a : Nat) : ((negMod m a : Nat) : Int) = ((m : Int) - a) % m := by
  have ha : a % m ≤ m := (Nat.mod_lt _ hm).le
  simp only [negMod, Int.natCast_emod, Nat.cast_sub ha]
  rw [Int.sub_emod_emod]

/-! ## Square-and-multiply -/

/-- The loop in a monoid that the multiplication maps into: from `res`, n more exponent bits give `res^(2^n) · x^(e mod 2^n)`. -/
theorem map_powLoop {α M : Type} [CommMonoid M] {mul : α → α → α} {f : α → M} (hf : ∀ a b, f (mul a b) = f a * f b)
    (x : α) (e n : Nat) (res : α) : f (powLoop mul x e n res) = f res ^ 2 ^ n * f x ^ (e % 2 ^ n) := by
  induction n generalizing res with
  | zero => simp [powLoop, Nat.mod_one]
  | succ n ih =>
    have he : e % 2 ^ (n + 1) = e % 2 ^ n + 2 ^ n * (if e.testBit n then 1 else 0) := by
      rw [Nat.mod_pow_succ, Nat.testBit_eq_decide_div_mod_eq]
      have := Nat.mod_two_eq_zero_or_one (e / 2 ^ n)
      rcases this with h | h <;> simp [h]
    rw [powLoop, ih, he]
    split
    · rw [hf, hf, Nat.mul_one, pow_add (f x), mul_pow, ← pow_two, ← pow_mul, ← Nat.pow_succ', mul_assoc,
        mul_comm (f x ^ 2 ^ n)]
    · rw [hf, Nat.mul_zero, Nat.add_zero (e % 2 ^ n), ← pow_two, ← pow_mul, ← Nat.pow_succ']

/-- `PowVartime` is the power in any monoid that the field's multiplication and one map into (40_fp.md R239). -/
theorem map_powVartime {α M : Type} [CommMonoid M] {mul : α → α → α} {f : α → M} (hf : ∀ a b, f (mul a b) = f a * f b)
    {one : α} (h1 : f one = 1) (x : α) {e n : Nat} (he : e < 2 ^ n) : f (powVartime mul one x e n) = f x ^ e := by
  rw [powVartime, map_powLoop hf, h1, one_pow, one_mul, Nat.mod_eq_of_lt he]

/-- What a value of the loop is bounded by: a predicate of every product holds of the loop's result. -/
theorem powLoop_of_mul {α : Type} {mul : α → α → α} {q : α → Prop} (hq : ∀ a b, q (mul a b)) (x : α) (e n : Nat) (res : α)
    (h : q res) : q (powLoop mul x e n res) := by
  induction n generalizing res with
  | zero => exact h
  | succ n ih => rw [powLoop]; split <;> exact ih _ (hq _ _)

theorem powMod_lt {m : Nat} (hm : 1 < m) (x e n : Nat) : powMod m x e n < m :=
  powLoop_of_mul (q := (· < m)) (fun a b => mulMod_lt (by omega) a b) x e n 1 hm

/-- `PowVartime` modulo m is the residue of the power (40_fp.md R239). -/
theorem powMod_eq {m x e n : Nat} (hm : 1 < m) (he : e < 2 ^ n) : powMod m x e n = x ^ e % m := by
  refine eq_of_cast_eq (powMod_lt hm x e n) (Nat.mod_lt _ (by omega)) ?_
  rw [powMod, map_powVartime (f := fun a : Nat => (a : ZMod m)) (cast_mulMod m) (by simp) x he]
  simp

end Sys2Proof.Machine
end

