-- ==== Sys2Proof/Laws/Primes.lean ====
section
/-! SUPPORT. Laws/Primes.lean: the two moduli are prime (spec/00_scope.md R8, R9: `it is prime`), by Lucas's criterion: a generator of
the multiplicative group and the factors of the modulus less one, each of them proved prime in the same way. -/

namespace Sys2Proof.Machine

/-- A certificate: g has order `m - 1` modulo m, where the powers of the listed pairs multiply to `m - 1`. -/
def lucasCert (m g n : Nat) (fs : List (Nat × Nat)) : Bool :=
  decide (1 < m) && decide (m ≤ 2 ^ n) && decide ((fs.map fun f => f.1 ^ f.2).prod = m - 1) &&
    decide (powMod m g (m - 1) n = 1) && fs.all fun f => decide (powMod m g ((m - 1) / f.1) n ≠ 1)

theorem prime_of_lucasCert {m g n : Nat} {fs : List (Nat × Nat)} (h : lucasCert m g n fs = true)
    (hp : ∀ f ∈ fs, f.1.Prime) : m.Prime := by
  simp only [lucasCert, Bool.and_eq_true, decide_eq_true_eq, List.all_eq_true] at h
  obtain ⟨⟨⟨⟨hm, hn⟩, hprod⟩, h1⟩, hne⟩ := h
  have hpow : ∀ e, e < m → ((powMod m g e n : Nat) : ZMod m) = (g : ZMod m) ^ e := fun e he => by
    rw [powMod_eq hm (by omega)]
    simp
  refine lucas_primality m g ?_ fun q hq hd => ?_
  · rw [← hpow _ (by omega), h1, Nat.cast_one]
  · have hmem : ∃ f ∈ fs, q = f.1 := by
      rw [← hprod] at hd
      obtain ⟨a, ha, hqa⟩ := (Nat.Prime.prime hq).dvd_prod_iff.1 hd
      obtain ⟨f, hf, rfl⟩ := List.mem_map.1 ha
      exact ⟨f, hf, (Nat.prime_dvd_prime_iff_eq hq (hp f hf)).1 (hq.dvd_of_dvd_pow hqa)⟩
    obtain ⟨f, hf, rfl⟩ := hmem
    have hlt : (m - 1) / f.1 < m := lt_of_le_of_lt (Nat.div_le_self _ _) (by omega)
    rw [← hpow _ hlt]
    intro hc
    have h2 := eq_of_cast_eq (powMod_lt hm _ _ _) hm (hc.trans Nat.cast_one.symm)
    exact hne f hf h2

theorem prime_52437899 : Nat.Prime 52437899 :=
  prime_of_lucasCert (g := 2) (n := 26)
    (fs := [(2, 1), (43, 1), (609743, 1)])
    (by decide +kernel) (by simpa using ⟨(by norm_num), (by norm_num), (by norm_num)⟩)

theorem prime_9272813673901 : Nat.Prime 9272813673901 :=
  prime_of_lucasCert (g := 2) (n := 44)
    (fs := [(2, 2), (3, 1), (5, 2), (7, 1), (7577, 1), (582767, 1)])
    (by decide +kernel) (by simpa using ⟨(by norm_num), (by norm_num), (by norm_num), (by norm_num), (by norm_num), (by norm_num)⟩)

theorem prime_1928745244171409 : Nat.Prime 1928745244171409 :=
  prime_of_lucasCert (g := 3) (n := 51)
    (fs := [(2, 4), (13, 1), (9272813673901, 1)])
    (by decide +kernel) (by simpa using ⟨(by norm_num), (by norm_num), prime_9272813673901⟩)

theorem prime_7259797099061183477 : Nat.Prime 7259797099061183477 :=
  prime_of_lucasCert (g := 2) (n := 63)
    (fs := [(2, 2), (941, 1), (1928745244171409, 1)])
    (by decide +kernel) (by simpa using ⟨(by norm_num), (by norm_num), prime_1928745244171409⟩)

theorem prime_258448776726 : Nat.Prime 2584487767265781317813 :=
  prime_of_lucasCert (g := 2) (n := 72)
    (fs := [(2, 2), (89, 1), (7259797099061183477, 1)])
    (by decide +kernel) (by simpa using ⟨(by norm_num), (by norm_num), prime_7259797099061183477⟩)

theorem prime_1686913 : Nat.Prime 1686913 :=
  prime_of_lucasCert (g := 10) (n := 21)
    (fs := [(2, 7), (3, 1), (23, 1), (191, 1)])
    (by decide +kernel) (by simpa using ⟨(by norm_num), (by norm_num), (by norm_num), (by norm_num)⟩)

theorem prime_475709467 : Nat.Prime 475709467 :=
  prime_of_lucasCert (g := 2) (n := 29)
    (fs := [(2, 1), (3, 1), (47, 1), (1686913, 1)])
    (by decide +kernel) (by simpa using ⟨(by norm_num), (by norm_num), (by norm_num), prime_1686913⟩)

theorem prime_927093389 : Nat.Prime 927093389 :=
  prime_of_lucasCert (g := 3) (n := 30)
    (fs := [(2, 2), (13, 1), (409, 1), (43591, 1)])
    (by decide +kernel) (by simpa using ⟨(by norm_num), (by norm_num), (by norm_num), (by norm_num)⟩)

theorem prime_64881703735777 : Nat.Prime 64881703735777 :=
  prime_of_lucasCert (g := 5) (n := 46)
    (fs := [(2, 5), (3, 7), (927093389, 1)])
    (by decide +kernel) (by simpa using ⟨(by norm_num), (by norm_num), prime_927093389⟩)

theorem prime_926912550821 : Nat.Prime 92691255082156974996979 :=
  prime_of_lucasCert (g := 3) (n := 77)
    (fs := [(2, 1), (3, 1), (31, 1), (467, 1), (16447, 1), (64881703735777, 1)])
    (by decide +kernel) (by simpa using ⟨(by norm_num), (by norm_num), (by norm_num), (by norm_num), (by norm_num), prime_64881703735777⟩)

theorem prime_51376543 : Nat.Prime 51376543 :=
  prime_of_lucasCert (g := 3) (n := 26)
    (fs := [(2, 1), (3, 1), (7, 1), (151, 1), (8101, 1)])
    (by decide +kernel) (by simpa using ⟨(by norm_num), (by norm_num), (by norm_num), (by norm_num), (by norm_num)⟩)

theorem prime_43670061551 : Nat.Prime 43670061551 :=
  prime_of_lucasCert (g := 7) (n := 36)
    (fs := [(2, 1), (5, 2), (17, 1), (51376543, 1)])
    (by decide +kernel) (by simpa using ⟨(by norm_num), (by norm_num), (by norm_num), prime_51376543⟩)

theorem prime_13090036741 : Nat.Prime 13090036741 :=
  prime_of_lucasCert (g := 10) (n := 34)
    (fs := [(2, 2), (3, 1), (5, 1), (11, 1), (47, 1), (421987, 1)])
    (by decide +kernel) (by simpa using ⟨(by norm_num), (by norm_num), (by norm_num), (by norm_num), (by norm_num), (by norm_num)⟩)

theorem prime_381966392739 : Nat.Prime 3819663927398918131021 :=
  prime_of_lucasCert (g := 6) (n := 72)
    (fs := [(2, 2), (3, 2), (5, 1), (19, 1), (113, 1), (755057, 1), (13090036741, 1)])
    (by decide +kernel) (by simpa using ⟨(by norm_num), (by norm_num), (by norm_num), (by norm_num), (by norm_num), (by norm_num), prime_13090036741⟩)

theorem prime_112526625215 : Nat.Prime 1125266252156850182658904441386709967 :=
  prime_of_lucasCert (g := 5) (n := 120)
    (fs := [(2, 1), (3373, 1), (43670061551, 1), (3819663927398918131021, 1)])
    (by decide +kernel) (by simpa using ⟨(by norm_num), (by norm_num), prime_43670061551, prime_381966392739⟩)

theorem prime_157784003443 : Nat.Prime 15778400344354997994418419698270088123916926905054652752758194827714659 :=
  prime_of_lucasCert (g := 2) (n := 234)
    (fs := [(2, 1), (3, 1), (53, 1), (475709467, 1), (92691255082156974996979, 1), (1125266252156850182658904441386709967, 1)])
    (by decide +kernel) (by simpa using ⟨(by norm_num), (by norm_num), (by norm_num), prime_475709467, prime_926912550821, prime_112526625215⟩)

theorem p_prime : Nat.Prime Config.p :=
  prime_of_lucasCert (g := 2) (n := 381)
    (fs := [(2, 1), (3, 2), (11, 1), (23, 1), (47, 1), (10177, 1), (859267, 1), (52437899, 1), (2584487767265781317813, 1), (15778400344354997994418419698270088123916926905054652752758194827714659, 1)])
    (by decide +kernel) (by simpa using ⟨(by norm_num), (by norm_num), (by norm_num), (by norm_num), (by norm_num), (by norm_num), (by norm_num), prime_52437899, prime_258448776726, prime_157784003443⟩)

theorem prime_2508409 : Nat.Prime 2508409 :=
  prime_of_lucasCert (g := 11) (n := 22)
    (fs := [(2, 3), (3, 4), (7, 2), (79, 1)])
    (by decide +kernel) (by simpa using ⟨(by norm_num), (by norm_num), (by norm_num), (by norm_num)⟩)

theorem prime_2529403 : Nat.Prime 2529403 :=
  prime_of_lucasCert (g := 2) (n := 22)
    (fs := [(2, 1), (3, 1), (23, 1), (18329, 1)])
    (by decide +kernel) (by simpa using ⟨(by norm_num), (by norm_num), (by norm_num), (by norm_num)⟩)

theorem prime_2653753 : Nat.Prime 2653753 :=
  prime_of_lucasCert (g := 5) (n := 22)
    (fs := [(2, 3), (3, 1), (110573, 1)])
    (by decide +kernel) (by simpa using ⟨(by norm_num), (by norm_num), (by norm_num)⟩)

theorem prime_63690073 : Nat.Prime 63690073 :=
  prime_of_lucasCert (g := 7) (n := 26)
    (fs := [(2, 3), (3, 1), (2653753, 1)])
    (by decide +kernel) (by simpa using ⟨(by norm_num), (by norm_num), prime_2653753⟩)

theorem prime_254760293 : Nat.Prime 254760293 :=
  prime_of_lucasCert (g := 2) (n := 28)
    (fs := [(2, 2), (63690073, 1)])
    (by decide +kernel) (by simpa using ⟨(by norm_num), prime_63690073⟩)

theorem r_prime : Nat.Prime Config.r :=
  prime_of_lucasCert (g := 7) (n := 255)
    (fs := [(2, 32), (3, 1), (11, 1), (19, 1), (10177, 1), (125527, 1), (859267, 1), (906349, 2), (2508409, 1), (2529403, 1), (52437899, 1), (254760293, 2)])
    (by decide +kernel) (by simpa using ⟨(by norm_num), (by norm_num), (by norm_num), (by norm_num), (by norm_num), (by norm_num), (by norm_num), (by norm_num), prime_2508409, prime_2529403, prime_52437899, prime_254760293⟩)

end Sys2Proof.Machine
end

