-- ==== Sys2Proof/Laws/Field.lean ====
section
/-! SUPPORT. Laws/Field.lean: the Fp and scalar functions in the fields `ZMod p` and `ZMod r`, and their results canonical. -/

namespace Sys2Proof.Machine

theorem fact_p : Fact (Nat.Prime Config.p) := ⟨p_prime⟩
theorem fact_r : Fact (Nat.Prime Config.r) := ⟨r_prime⟩

theorem fpAdd_lt (a b : Nat) : fpAdd a b < Config.p := addMod_lt p_pos a b
theorem fpSub_lt (a b : Nat) : fpSub a b < Config.p := subMod_lt p_pos a b
theorem fpNeg_lt (a : Nat) : fpNeg a < Config.p := negMod_lt p_pos a
theorem fpMul_lt (a b : Nat) : fpMul a b < Config.p := mulMod_lt p_pos a b
theorem fpSqr_lt (a : Nat) : fpSqr a < Config.p := mulMod_lt p_pos a a
theorem mul3b_lt (a : Nat) : mul3b a < Config.p := fpMul_lt _ a
theorem fpInv_lt (a : Nat) : fpInv a < Config.p := powMod_lt p_prime.one_lt _ _ _
theorem fpRoot_lt (a : Nat) : fpRoot a < Config.p := powMod_lt p_prime.one_lt _ _ _
theorem fpSumOfProducts_lt (l : List (Nat × Nat)) : fpSumOfProducts l < Config.p := Nat.mod_lt _ p_pos

theorem cast_fpAdd (a b : Nat) : ((fpAdd a b : Nat) : ZMod Config.p) = a + b := cast_addMod _ a b
theorem cast_fpSub (a b : Nat) : ((fpSub a b : Nat) : ZMod Config.p) = a - b := cast_subMod p_pos a b
theorem cast_fpNeg (a : Nat) : ((fpNeg a : Nat) : ZMod Config.p) = -a := cast_negMod p_pos a
theorem cast_fpMul (a b : Nat) : ((fpMul a b : Nat) : ZMod Config.p) = a * b := cast_mulMod _ a b
theorem cast_fpSqr (a : Nat) : ((fpSqr a : Nat) : ZMod Config.p) = (a : ZMod Config.p) ^ 2 := by
  rw [sq]; exact cast_mulMod _ a a
theorem cast_mul3b (a : Nat) : ((mul3b a : Nat) : ZMod Config.p) = 12 * a := by
  rw [mul3b, cast_fpMul]; simp [Config.b3]

theorem cast_fpSumOfProducts (l : List (Nat × Nat)) :
    ((fpSumOfProducts l : Nat) : ZMod Config.p) = (l.map fun q => (q.1 : ZMod Config.p) * q.2).sum := by
  rw [fpSumOfProducts, ZMod.natCast_mod]
  induction l with
  | nil => simp
  | cons q l ih => simp_all

/-- `FP.INV`'s exponentiation is the field's inverse, and 0 at 0 (40_fp.md R250). -/
theorem cast_fpInv (a : Nat) : ((fpInv a : Nat) : ZMod Config.p) = (a : ZMod Config.p)⁻¹ := by
  have := fact_p
  rw [fpInv, powMod_eq p_prime.one_lt (lt_of_le_of_lt (Nat.sub_le _ _) (by decide +kernel)), ZMod.natCast_mod, Nat.cast_pow]
  by_cases h : (a : ZMod Config.p) = 0
  · rw [h, inv_zero, zero_pow (by decide)]
  · refine eq_inv_of_mul_eq_one_left ?_
    rw [← pow_succ]
    exact ZMod.pow_card_sub_one_eq_one h

theorem cast_fpRoot (a : Nat) : ((fpRoot a : Nat) : ZMod Config.p) = (a : ZMod Config.p) ^ ((Config.p + 1) / 4) := by
  rw [fpRoot, powMod_eq p_prime.one_lt (by decide +kernel), ZMod.natCast_mod, Nat.cast_pow]

theorem scInv_lt (a : Nat) : scInv a < Config.r := powMod_lt r_prime.one_lt _ _ _

/-- `SC.INV`'s exponentiation is the field's inverse, and 0 at 0 (42_scalar.md R363). -/
theorem cast_scInv (a : Nat) : ((scInv a : Nat) : ZMod Config.r) = (a : ZMod Config.r)⁻¹ := by
  have := fact_r
  rw [scInv, powMod_eq r_prime.one_lt (lt_of_le_of_lt (Nat.sub_le _ _) (by decide +kernel)), ZMod.natCast_mod, Nat.cast_pow]
  by_cases h : (a : ZMod Config.r) = 0
  · rw [h, inv_zero, zero_pow (by decide)]
  · refine eq_inv_of_mul_eq_one_left ?_
    rw [← pow_succ]
    exact ZMod.pow_card_sub_one_eq_one h

theorem scPow_lt (a e : Nat) : scPow a e < Config.r := powMod_lt r_prime.one_lt _ _ _

/-- Euler's criterion, in the direction that refutes: a number whose power `(q-1)/2` is neither 0 nor 1 has no square root modulo q. -/
theorem not_square_of_pow {q a n : Nat} (hq : q.Prime) (h2 : q % 2 = 1) (hn : (q - 1) / 2 < 2 ^ n)
    (h0 : powMod q a ((q - 1) / 2) n ≠ 0) (h1 : powMod q a ((q - 1) / 2) n ≠ 1) : ¬∃ y, y * y % q = a % q := by
  rintro ⟨y, hy⟩
  have := Fact.mk hq
  rw [powMod_eq hq.one_lt hn] at h0 h1
  have ha : (a : ZMod q) = y * y := by rw [← ZMod.natCast_mod a, ← hy, ZMod.natCast_mod, Nat.cast_mul]
  have hp : ((a ^ ((q - 1) / 2) : Nat) : ZMod q) = (y : ZMod q) ^ (q - 1) := by
    rw [Nat.cast_pow, ha, ← sq, ← pow_mul]; congr 1; omega
  by_cases hy0 : (y : ZMod q) = 0
  · rw [hy0, zero_pow (by have := hq.two_le; omega), ZMod.natCast_eq_zero_iff] at hp
    exact h0 (Nat.mod_eq_zero_of_dvd hp)
  · have hp := (hp.trans (ZMod.pow_card_sub_one_eq_one hy0)).trans (Nat.cast_one (R := ZMod q)).symm
    rw [ZMod.natCast_eq_natCast_iff', Nat.mod_eq_of_lt hq.one_lt] at hp
    exact h1 hp

/-- 2 is no square modulo p (95_test_vectors.md V-FP-11). -/
theorem two_not_square : ¬∃ y, y * y % Config.p = 2 :=
  not_square_of_pow (a := 2) (n := 384) p_prime (by decide) (by decide +kernel) (by decide +kernel) (by decide +kernel)

end Sys2Proof.Machine
end

