-- ==== Sys2Proof/Laws/Memory.lean ====
section
/-! SUPPORT. Laws/Memory.lean: BUF's canonical form is kept by every write, and a read after a write gives the byte written, every
other byte as before. -/

namespace Sys2Proof.Machine

/-- What the canonical form says of a non-empty list. -/
theorem Memory.wf_cons {c : Host.Cell} {m : Memory} :
    Memory.wf (c :: m) = true ↔ c.1 < bufSize ∧ c.2 ≠ 0 ∧ (∀ d ∈ m, c.1 < d.1) ∧ Memory.wf m = true := by
  obtain ⟨k, v⟩ := c
  simp [Memory.wf, List.all_eq_true, and_assoc]

/-- The empty BUF, its reset value, has the canonical form. -/
@[simp] theorem Memory.wf_nil : Memory.wf [] = true := rfl

/-- The keys of a memory after one byte is put are the old ones and the new one. -/
theorem mem_putByte {k : Nat} {v : Byte} {m : Memory} {c : Host.Cell} (h : c ∈ putByte k v m) : c = (k, v) ∨ c ∈ m := by
  induction m with
  | nil =>
    unfold putByte at h
    split at h <;> simp_all
  | cons d m ih =>
    obtain ⟨j, u⟩ := d
    unfold putByte at h
    repeat' split at h
    all_goals simp only [List.mem_cons] at h ⊢
    all_goals grind

/-- Putting a byte keeps the canonical form. -/
theorem putByte_wf {k : Nat} {v : Byte} {m : Memory} (hk : k < bufSize) (h : Memory.wf m = true) :
    Memory.wf (putByte k v m) = true := by
  induction m with
  | nil =>
    unfold putByte
    split
    · rfl
    · exact Memory.wf_cons.2 ⟨hk, ‹_›, by simp, rfl⟩
  | cons d m ih =>
    obtain ⟨j, u⟩ := d
    obtain ⟨hj, hu, hlt, hm⟩ := Memory.wf_cons.1 h
    unfold putByte
    split
    · refine Memory.wf_cons.2 ⟨hj, hu, fun c hc => ?_, ih hm⟩
      rcases mem_putByte hc with rfl | hc
      · assumption
      · exact hlt c hc
    · split
      · split
        · exact hm
        · subst j
          exact Memory.wf_cons.2 ⟨hk, ‹_›, hlt, hm⟩
      · split
        · exact h
        · refine Memory.wf_cons.2 ⟨hk, ‹_›, fun c hc => ?_, h⟩
          rcases List.mem_cons.1 hc with rfl | hc
          · simp only; omega
          · have := hlt c hc
            simp only at this; omega

/-- Writing a byte keeps the canonical form. -/
theorem setByte_wf {m : Memory} {k : Nat} {v : Byte} (h : Memory.wf m = true) : Memory.wf (setByte m k v) = true := by
  unfold setByte
  split
  · exact putByte_wf ‹_› h
  · exact h

/-- Writing a sequence keeps the canonical form. -/
theorem bufWrite_wf {m : Memory} {off : Nat} {bs : List Byte} (h : Memory.wf m = true) :
    Memory.wf (bufWrite m off bs) = true := by
  induction bs generalizing m off with
  | nil => exact h
  | cons v bs ih => exact ih (setByte_wf h)

/-- An index below every listed one reads as 0. -/
theorem bufByte_of_lt {m : Memory} {k : Nat} (h : ∀ c ∈ m, k < c.1) : bufByte m k = 0 := by
  induction m with
  | nil => rfl
  | cons d m ih =>
    obtain ⟨j, u⟩ := d
    have hj : k < j := h (j, u) (by simp)
    simp only [bufByte, if_neg (show ¬j = k by omega)]
    exact ih fun c hc => h c (by simp [hc])

/-- Reading the byte just put. -/
theorem bufByte_putByte_same {m : Memory} {k : Nat} {v : Byte} (h : Memory.wf m = true) : bufByte (putByte k v m) k = v := by
  induction m with
  | nil =>
    unfold putByte
    split <;> simp_all [bufByte]
  | cons d m ih =>
    obtain ⟨j, u⟩ := d
    obtain ⟨-, -, hlt, hm⟩ := Memory.wf_cons.1 h
    unfold putByte
    split
    · simp only [bufByte, if_neg (show ¬j = k by omega), ih hm]
    · split
      · subst j
        split
        · subst v
          exact bufByte_of_lt hlt
        · simp [bufByte]
      · split
        · subst v
          refine bufByte_of_lt fun c hc => ?_
          rcases List.mem_cons.1 hc with rfl | hc
          · simp only; omega
          · have := hlt c hc
            simp only at this; omega
        · simp [bufByte]

/-- Reading another byte than the one put. -/
theorem bufByte_putByte_other {m : Memory} {k i : Nat} {v : Byte} (hi : i ≠ k) : bufByte (putByte k v m) i = bufByte m i := by
  induction m with
  | nil =>
    unfold putByte
    split <;> simp [bufByte, Ne.symm hi]
  | cons d m ih =>
    obtain ⟨j, u⟩ := d
    unfold putByte
    split
    · simp only [bufByte, ih]
    · split
      · subst j
        split <;> simp [bufByte, Ne.symm hi]
      · split <;> simp [bufByte, Ne.symm hi]

/-- A byte of BUF after one byte is written. -/
theorem bufByte_setByte {m : Memory} {k i : Nat} {v : Byte} (h : Memory.wf m = true) :
    bufByte (setByte m k v) i = if i = k ∧ k < bufSize then v else bufByte m i := by
  unfold setByte
  by_cases hk : k < bufSize <;> by_cases hi : i = k <;> simp [hk, hi]
  · exact bufByte_putByte_same h
  · exact bufByte_putByte_other hi

/-- A byte of BUF after a sequence is written: inside the written range the sequence's byte, elsewhere the old one. -/
theorem bufByte_bufWrite {m : Memory} {off : Nat} {bs : List Byte} {i : Nat} (h : Memory.wf m = true) (hi : i < bufSize) :
    bufByte (bufWrite m off bs) i = if off ≤ i ∧ i < off + bs.length then bs.getD (i - off) 0 else bufByte m i := by
  induction bs generalizing m off with
  | nil => simp [bufWrite, show ¬(off ≤ i ∧ i < off) by omega]
  | cons v bs ih =>
    simp only [bufWrite, ih (setByte_wf h), bufByte_setByte h, List.length_cons]
    by_cases h1 : i = off
    · subst i
      simp [show ¬(off + 1 ≤ off) by omega, hi]
    · by_cases h2 : off + 1 ≤ i ∧ i < off + 1 + bs.length
      · rw [if_pos h2, if_pos (by omega), show i - off = (i - (off + 1)) + 1 by omega, List.getD_cons_succ]
      · rw [if_neg h2, if_neg (by simp [h1]), if_neg (by omega)]

/-- A sequence of bytes at or past the end of the written range reads as before. -/
theorem bufByte_bufWrite_above {m : Memory} {off : Nat} {bs : List Byte} {i : Nat} (hi : off + bs.length ≤ i) :
    bufByte (bufWrite m off bs) i = bufByte m i := by
  induction bs generalizing m off with
  | nil => rfl
  | cons v bs ih =>
    simp only [List.length_cons] at hi
    rw [bufWrite, ih (by omega), setByte]
    split
    · exact bufByte_putByte_other (by omega)
    · rfl

@[simp] theorem length_bufRead (m : Memory) (off n : Nat) : (bufRead m off n).length = n := by
  induction n generalizing off with
  | zero => rfl
  | succ n ih => simp [bufRead, ih]

/-- The bytes of a read sequence. -/
theorem getD_bufRead {m : Memory} {off n i : Nat} (hi : i < n) : (bufRead m off n).getD i 0 = bufByte m (off + i) := by
  induction n generalizing off i with
  | zero => omega
  | succ n ih =>
    cases i with
    | zero => simp [bufRead]
    | succ i => rw [bufRead, List.getD_cons_succ, ih (by omega)]; congr 1; omega

/-- Reading back a sequence that was just written. -/
theorem bufRead_bufWrite {m : Memory} {off : Nat} {bs : List Byte} (h : Memory.wf m = true) (hb : off + bs.length ≤ bufSize) :
    bufRead (bufWrite m off bs) off bs.length = bs := by
  refine List.ext_getElem (by simp) fun i h1 h2 => ?_
  have h3 := getD_bufRead (m := bufWrite m off bs) (off := off) h2
  rw [bufByte_bufWrite h (by omega), if_pos (by omega), Nat.add_sub_cancel_left, List.getD_eq_getElem _ _ h1,
    List.getD_eq_getElem _ _ h2] at h3
  exact h3

/-- Two memories of the canonical form with equal bytes are equal. -/
theorem Memory.ext_bytes {m m' : Memory} (h : Memory.wf m = true) (h' : Memory.wf m' = true)
    (hb : ∀ k, bufByte m k = bufByte m' k) : m = m' := by
  induction m generalizing m' with
  | nil =>
    cases m' with
    | nil => rfl
    | cons c m' =>
      obtain ⟨k, v⟩ := c
      have := hb k
      simp only [bufByte, if_true] at this
      exact absurd this.symm (Memory.wf_cons.1 h').2.1
  | cons c m ih =>
    obtain ⟨k, v⟩ := c
    obtain ⟨hk, hv, hlt, hm⟩ := Memory.wf_cons.1 h
    cases m' with
    | nil =>
      have := hb k
      simp only [bufByte, if_true] at this
      exact absurd this hv
    | cons c' m' =>
      obtain ⟨k', v'⟩ := c'
      obtain ⟨hk', hv', hlt', hm'⟩ := Memory.wf_cons.1 h'
      have hkk : k = k' := by
        rcases Nat.lt_trichotomy k k' with hl | hl | hl
        · have h1 := hb k
          rw [bufByte_of_lt (m := (k', v') :: m') (fun c hc => by
            rcases List.mem_cons.1 hc with rfl | hc
            · exact hl
            · exact Nat.lt_trans hl (hlt' c hc))] at h1
          simp only [bufByte, if_true] at h1
          exact absurd h1 hv
        · exact hl
        · have h1 := hb k'
          rw [bufByte_of_lt (m := (k, v) :: m) (fun c hc => by
            rcases List.mem_cons.1 hc with rfl | hc
            · exact hl
            · exact Nat.lt_trans hl (hlt c hc))] at h1
          simp only [bufByte, if_true] at h1
          exact absurd h1.symm hv'
      subst k'
      have hvv : v = v' := by simpa [bufByte] using hb k
      subst v'
      congr 1
      refine ih hm hm' fun i => ?_
      by_cases hi : k = i
      · subst i
        rw [bufByte_of_lt hlt, bufByte_of_lt hlt']
      · simpa [bufByte, hi] using hb i

end Sys2Proof.Machine
end

