-- ==== Sys2Proof/Laws/State.lean ====
section
/-! SUPPORT. Laws/State.lean: for every update of the state, what each field is after it; all true by definition, so that no later
proof unfolds a record update. -/

namespace Sys2Proof.Machine

variable (s : State)

@[simp] theorem State.setF_files (d : FReg) (v : Nat) : (s.setF d v).files = { s.files with F := s.files.F.set d v } := rfl
@[simp] theorem State.setF_CMD (d : FReg) (v : Nat) : (s.setF d v).CMD = s.CMD := rfl
@[simp] theorem State.setF_BUSY (d : FReg) (v : Nat) : (s.setF d v).BUSY = s.BUSY := rfl
@[simp] theorem State.setF_FLAG (d : FReg) (v : Nat) : (s.setF d v).FLAG = s.FLAG := rfl
@[simp] theorem State.setF_ERR (d : FReg) (v : Nat) : (s.setF d v).ERR = s.ERR := rfl
@[simp] theorem State.setF_STICKY (d : FReg) (v : Nat) : (s.setF d v).STICKY = s.STICKY := rfl
@[simp] theorem State.setF_PENDING (d : FReg) (v : Nat) : (s.setF d v).PENDING = s.PENDING := rfl
@[simp] theorem State.setF_turns (d : FReg) (v : Nat) : (s.setF d v).turns = s.turns := rfl
@[simp] theorem State.setF_readData (d : FReg) (v : Nat) : (s.setF d v).readData = s.readData := rfl
@[simp] theorem State.setF_draws (d : FReg) (v : Nat) : (s.setF d v).draws = s.draws := rfl

@[simp] theorem State.setE_files (d : EReg) (v : Fp2) : (s.setE d v).files = { s.files with E := s.files.E.set d v } := rfl
@[simp] theorem State.setE_CMD (d : EReg) (v : Fp2) : (s.setE d v).CMD = s.CMD := rfl
@[simp] theorem State.setE_BUSY (d : EReg) (v : Fp2) : (s.setE d v).BUSY = s.BUSY := rfl
@[simp] theorem State.setE_FLAG (d : EReg) (v : Fp2) : (s.setE d v).FLAG = s.FLAG := rfl
@[simp] theorem State.setE_ERR (d : EReg) (v : Fp2) : (s.setE d v).ERR = s.ERR := rfl
@[simp] theorem State.setE_STICKY (d : EReg) (v : Fp2) : (s.setE d v).STICKY = s.STICKY := rfl
@[simp] theorem State.setE_PENDING (d : EReg) (v : Fp2) : (s.setE d v).PENDING = s.PENDING := rfl
@[simp] theorem State.setE_turns (d : EReg) (v : Fp2) : (s.setE d v).turns = s.turns := rfl
@[simp] theorem State.setE_readData (d : EReg) (v : Fp2) : (s.setE d v).readData = s.readData := rfl
@[simp] theorem State.setE_draws (d : EReg) (v : Fp2) : (s.setE d v).draws = s.draws := rfl

@[simp] theorem State.setS_files (d : SReg) (v : Nat) : (s.setS d v).files = { s.files with S := s.files.S.set d v } := rfl
@[simp] theorem State.setS_CMD (d : SReg) (v : Nat) : (s.setS d v).CMD = s.CMD := rfl
@[simp] theorem State.setS_BUSY (d : SReg) (v : Nat) : (s.setS d v).BUSY = s.BUSY := rfl
@[simp] theorem State.setS_FLAG (d : SReg) (v : Nat) : (s.setS d v).FLAG = s.FLAG := rfl
@[simp] theorem State.setS_ERR (d : SReg) (v : Nat) : (s.setS d v).ERR = s.ERR := rfl
@[simp] theorem State.setS_STICKY (d : SReg) (v : Nat) : (s.setS d v).STICKY = s.STICKY := rfl
@[simp] theorem State.setS_PENDING (d : SReg) (v : Nat) : (s.setS d v).PENDING = s.PENDING := rfl
@[simp] theorem State.setS_turns (d : SReg) (v : Nat) : (s.setS d v).turns = s.turns := rfl
@[simp] theorem State.setS_readData (d : SReg) (v : Nat) : (s.setS d v).readData = s.readData := rfl
@[simp] theorem State.setS_draws (d : SReg) (v : Nat) : (s.setS d v).draws = s.draws := rfl

@[simp] theorem State.setA_files (d : AReg) (v : Affine) : (s.setA d v).files = { s.files with A := s.files.A.set d v } := rfl
@[simp] theorem State.setA_CMD (d : AReg) (v : Affine) : (s.setA d v).CMD = s.CMD := rfl
@[simp] theorem State.setA_BUSY (d : AReg) (v : Affine) : (s.setA d v).BUSY = s.BUSY := rfl
@[simp] theorem State.setA_FLAG (d : AReg) (v : Affine) : (s.setA d v).FLAG = s.FLAG := rfl
@[simp] theorem State.setA_ERR (d : AReg) (v : Affine) : (s.setA d v).ERR = s.ERR := rfl
@[simp] theorem State.setA_STICKY (d : AReg) (v : Affine) : (s.setA d v).STICKY = s.STICKY := rfl
@[simp] theorem State.setA_PENDING (d : AReg) (v : Affine) : (s.setA d v).PENDING = s.PENDING := rfl
@[simp] theorem State.setA_turns (d : AReg) (v : Affine) : (s.setA d v).turns = s.turns := rfl
@[simp] theorem State.setA_readData (d : AReg) (v : Affine) : (s.setA d v).readData = s.readData := rfl
@[simp] theorem State.setA_draws (d : AReg) (v : Affine) : (s.setA d v).draws = s.draws := rfl

@[simp] theorem State.setP_files (d : PReg) (v : Proj) : (s.setP d v).files = { s.files with P := s.files.P.set d v } := rfl
@[simp] theorem State.setP_CMD (d : PReg) (v : Proj) : (s.setP d v).CMD = s.CMD := rfl
@[simp] theorem State.setP_BUSY (d : PReg) (v : Proj) : (s.setP d v).BUSY = s.BUSY := rfl
@[simp] theorem State.setP_FLAG (d : PReg) (v : Proj) : (s.setP d v).FLAG = s.FLAG := rfl
@[simp] theorem State.setP_ERR (d : PReg) (v : Proj) : (s.setP d v).ERR = s.ERR := rfl
@[simp] theorem State.setP_STICKY (d : PReg) (v : Proj) : (s.setP d v).STICKY = s.STICKY := rfl
@[simp] theorem State.setP_PENDING (d : PReg) (v : Proj) : (s.setP d v).PENDING = s.PENDING := rfl
@[simp] theorem State.setP_turns (d : PReg) (v : Proj) : (s.setP d v).turns = s.turns := rfl
@[simp] theorem State.setP_readData (d : PReg) (v : Proj) : (s.setP d v).readData = s.readData := rfl
@[simp] theorem State.setP_draws (d : PReg) (v : Proj) : (s.setP d v).draws = s.draws := rfl

@[simp] theorem State.setBuf_files (bs : List Byte) : (s.setBuf bs).files = { s.files with BUF := bufWrite s.files.BUF 0 bs } := rfl
@[simp] theorem State.setBuf_CMD (bs : List Byte) : (s.setBuf bs).CMD = s.CMD := rfl
@[simp] theorem State.setBuf_BUSY (bs : List Byte) : (s.setBuf bs).BUSY = s.BUSY := rfl
@[simp] theorem State.setBuf_FLAG (bs : List Byte) : (s.setBuf bs).FLAG = s.FLAG := rfl
@[simp] theorem State.setBuf_ERR (bs : List Byte) : (s.setBuf bs).ERR = s.ERR := rfl
@[simp] theorem State.setBuf_STICKY (bs : List Byte) : (s.setBuf bs).STICKY = s.STICKY := rfl
@[simp] theorem State.setBuf_PENDING (bs : List Byte) : (s.setBuf bs).PENDING = s.PENDING := rfl
@[simp] theorem State.setBuf_turns (bs : List Byte) : (s.setBuf bs).turns = s.turns := rfl
@[simp] theorem State.setBuf_readData (bs : List Byte) : (s.setBuf bs).readData = s.readData := rfl
@[simp] theorem State.setBuf_draws (bs : List Byte) : (s.setBuf bs).draws = s.draws := rfl

@[simp] theorem State.setRangeA_files (d : Nat) (xs : List Affine) : (s.setRangeA d xs).files = { s.files with A := putRange s.files.A d xs } := rfl
@[simp] theorem State.setRangeA_CMD (d : Nat) (xs : List Affine) : (s.setRangeA d xs).CMD = s.CMD := rfl
@[simp] theorem State.setRangeA_BUSY (d : Nat) (xs : List Affine) : (s.setRangeA d xs).BUSY = s.BUSY := rfl
@[simp] theorem State.setRangeA_FLAG (d : Nat) (xs : List Affine) : (s.setRangeA d xs).FLAG = s.FLAG := rfl
@[simp] theorem State.setRangeA_ERR (d : Nat) (xs : List Affine) : (s.setRangeA d xs).ERR = s.ERR := rfl
@[simp] theorem State.setRangeA_STICKY (d : Nat) (xs : List Affine) : (s.setRangeA d xs).STICKY = s.STICKY := rfl
@[simp] theorem State.setRangeA_PENDING (d : Nat) (xs : List Affine) : (s.setRangeA d xs).PENDING = s.PENDING := rfl
@[simp] theorem State.setRangeA_turns (d : Nat) (xs : List Affine) : (s.setRangeA d xs).turns = s.turns := rfl
@[simp] theorem State.setRangeA_readData (d : Nat) (xs : List Affine) : (s.setRangeA d xs).readData = s.readData := rfl
@[simp] theorem State.setRangeA_draws (d : Nat) (xs : List Affine) : (s.setRangeA d xs).draws = s.draws := rfl

@[simp] theorem State.setFLAG_files (v : Bool) : (s.setFLAG v).files = s.files := rfl
@[simp] theorem State.setFLAG_CMD (v : Bool) : (s.setFLAG v).CMD = s.CMD := rfl
@[simp] theorem State.setFLAG_BUSY (v : Bool) : (s.setFLAG v).BUSY = s.BUSY := rfl
@[simp] theorem State.setFLAG_FLAG (v : Bool) : (s.setFLAG v).FLAG = v := rfl
@[simp] theorem State.setFLAG_ERR (v : Bool) : (s.setFLAG v).ERR = s.ERR := rfl
@[simp] theorem State.setFLAG_STICKY (v : Bool) : (s.setFLAG v).STICKY = s.STICKY := rfl
@[simp] theorem State.setFLAG_PENDING (v : Bool) : (s.setFLAG v).PENDING = s.PENDING := rfl
@[simp] theorem State.setFLAG_turns (v : Bool) : (s.setFLAG v).turns = s.turns := rfl
@[simp] theorem State.setFLAG_readData (v : Bool) : (s.setFLAG v).readData = s.readData := rfl
@[simp] theorem State.setFLAG_draws (v : Bool) : (s.setFLAG v).draws = s.draws := rfl

@[simp] theorem State.complete_files (k : Option ErrorKind) : (s.complete k).files = s.files := rfl
@[simp] theorem State.complete_CMD (k : Option ErrorKind) : (s.complete k).CMD = s.CMD := rfl
@[simp] theorem State.complete_BUSY (k : Option ErrorKind) : (s.complete k).BUSY = false := rfl
@[simp] theorem State.complete_FLAG (k : Option ErrorKind) : (s.complete k).FLAG = s.FLAG := rfl
@[simp] theorem State.complete_ERR (k : Option ErrorKind) : (s.complete k).ERR = errAfter k := rfl
@[simp] theorem State.complete_STICKY (k : Option ErrorKind) : (s.complete k).STICKY = stickyAfter s.STICKY k := rfl
@[simp] theorem State.complete_PENDING (k : Option ErrorKind) : (s.complete k).PENDING = none := rfl
@[simp] theorem State.complete_turns (k : Option ErrorKind) : (s.complete k).turns = s.turns := rfl
@[simp] theorem State.complete_readData (k : Option ErrorKind) : (s.complete k).readData = s.readData := rfl
@[simp] theorem State.complete_draws (k : Option ErrorKind) : (s.complete k).draws = s.draws := rfl

@[simp] theorem State.capture_files (w : Word) : (s.capture w).files = s.files := rfl
@[simp] theorem State.capture_CMD (w : Word) : (s.capture w).CMD = w := rfl
@[simp] theorem State.capture_BUSY (w : Word) : (s.capture w).BUSY = true := rfl
@[simp] theorem State.capture_FLAG (w : Word) : (s.capture w).FLAG = s.FLAG := rfl
@[simp] theorem State.capture_ERR (w : Word) : (s.capture w).ERR = s.ERR := rfl
@[simp] theorem State.capture_STICKY (w : Word) : (s.capture w).STICKY = s.STICKY := rfl
@[simp] theorem State.capture_PENDING (w : Word) : (s.capture w).PENDING = some ⟨w, s.files⟩ := rfl
@[simp] theorem State.capture_turns (w : Word) : (s.capture w).turns = s.turns := rfl
@[simp] theorem State.capture_readData (w : Word) : (s.capture w).readData = s.readData := rfl
@[simp] theorem State.capture_draws (w : Word) : (s.capture w).draws = s.draws := rfl

@[simp] theorem State.overrun_files : (s.overrun).files = s.files := rfl
@[simp] theorem State.overrun_CMD : (s.overrun).CMD = s.CMD := rfl
@[simp] theorem State.overrun_BUSY : (s.overrun).BUSY = s.BUSY := rfl
@[simp] theorem State.overrun_FLAG : (s.overrun).FLAG = s.FLAG := rfl
@[simp] theorem State.overrun_ERR : (s.overrun).ERR = s.ERR := rfl
@[simp] theorem State.overrun_STICKY : (s.overrun).STICKY = s.STICKY ||| hostOverrunBit := rfl
@[simp] theorem State.overrun_PENDING : (s.overrun).PENDING = s.PENDING := rfl
@[simp] theorem State.overrun_turns : (s.overrun).turns = s.turns := rfl
@[simp] theorem State.overrun_readData : (s.overrun).readData = s.readData := rfl
@[simp] theorem State.overrun_draws : (s.overrun).draws = s.draws := rfl

@[simp] theorem State.clearSticky_files : (s.clearSticky).files = s.files := rfl
@[simp] theorem State.clearSticky_CMD : (s.clearSticky).CMD = s.CMD := rfl
@[simp] theorem State.clearSticky_BUSY : (s.clearSticky).BUSY = s.BUSY := rfl
@[simp] theorem State.clearSticky_FLAG : (s.clearSticky).FLAG = s.FLAG := rfl
@[simp] theorem State.clearSticky_ERR : (s.clearSticky).ERR = s.ERR := rfl
@[simp] theorem State.clearSticky_STICKY : (s.clearSticky).STICKY = 0 := rfl
@[simp] theorem State.clearSticky_PENDING : (s.clearSticky).PENDING = s.PENDING := rfl
@[simp] theorem State.clearSticky_turns : (s.clearSticky).turns = s.turns := rfl
@[simp] theorem State.clearSticky_readData : (s.clearSticky).readData = s.readData := rfl
@[simp] theorem State.clearSticky_draws : (s.clearSticky).draws = s.draws := rfl

@[simp] theorem State.resetCore_files : (s.resetCore).files = Files.reset := rfl
@[simp] theorem State.resetCore_CMD : (s.resetCore).CMD = 0 := rfl
@[simp] theorem State.resetCore_BUSY : (s.resetCore).BUSY = false := rfl
@[simp] theorem State.resetCore_FLAG : (s.resetCore).FLAG = false := rfl
@[simp] theorem State.resetCore_ERR : (s.resetCore).ERR = 0 := rfl
@[simp] theorem State.resetCore_STICKY : (s.resetCore).STICKY = 0 := rfl
@[simp] theorem State.resetCore_PENDING : (s.resetCore).PENDING = none := rfl
@[simp] theorem State.resetCore_turns : (s.resetCore).turns = s.turns := rfl
@[simp] theorem State.resetCore_readData : (s.resetCore).readData = s.readData := rfl
@[simp] theorem State.resetCore_draws : (s.resetCore).draws = s.draws := rfl

@[simp] theorem State.respond_files (v : Word) : (s.respond v).files = s.files := rfl
@[simp] theorem State.respond_CMD (v : Word) : (s.respond v).CMD = s.CMD := rfl
@[simp] theorem State.respond_BUSY (v : Word) : (s.respond v).BUSY = s.BUSY := rfl
@[simp] theorem State.respond_FLAG (v : Word) : (s.respond v).FLAG = s.FLAG := rfl
@[simp] theorem State.respond_ERR (v : Word) : (s.respond v).ERR = s.ERR := rfl
@[simp] theorem State.respond_STICKY (v : Word) : (s.respond v).STICKY = s.STICKY := rfl
@[simp] theorem State.respond_PENDING (v : Word) : (s.respond v).PENDING = s.PENDING := rfl
@[simp] theorem State.respond_turns (v : Word) : (s.respond v).turns = s.turns := rfl
@[simp] theorem State.respond_readData (v : Word) : (s.respond v).readData = v := rfl
@[simp] theorem State.respond_draws (v : Word) : (s.respond v).draws = s.draws := rfl

@[simp] theorem State.respondFree_files : (s.respondFree).files = s.files := rfl
@[simp] theorem State.respondFree_CMD : (s.respondFree).CMD = s.CMD := rfl
@[simp] theorem State.respondFree_BUSY : (s.respondFree).BUSY = s.BUSY := rfl
@[simp] theorem State.respondFree_FLAG : (s.respondFree).FLAG = s.FLAG := rfl
@[simp] theorem State.respondFree_ERR : (s.respondFree).ERR = s.ERR := rfl
@[simp] theorem State.respondFree_STICKY : (s.respondFree).STICKY = s.STICKY := rfl
@[simp] theorem State.respondFree_PENDING : (s.respondFree).PENDING = s.PENDING := rfl
@[simp] theorem State.respondFree_turns : (s.respondFree).turns = s.turns := rfl
@[simp] theorem State.respondFree_readData : (s.respondFree).readData = Config.busyBufRead s.draws := rfl
@[simp] theorem State.respondFree_draws : (s.respondFree).draws = s.draws + 1 := rfl

/-- The operands of a state whose in-flight record is known. -/
@[simp] theorem State.operands_inFlight (q : InFlight) (h : s.PENDING = some q) : s.operands = q.operands := by
  simp [State.operands, h]

/-- The operands of a state with no command in flight are its registers. -/
@[simp] theorem State.operands_idle (h : s.PENDING = none) : s.operands = s.files := by
  simp [State.operands, h]

/-- Just after acceptance the operands are the registers (20_memory.md R128). -/
@[simp] theorem State.capture_operands (w : Word) : (s.capture w).operands = s.files := rfl

end Sys2Proof.Machine
end

