-- ==== Sys2Proof/Laws/Ops.lean ====
section
/-! SUPPORT. Laws/Ops.lean: what the shared operations can do, said once: completing, raising, storing a decoded point, and the one
form that every command's outcome has. -/

namespace Sys2Proof.Machine

theorem done_eq (s : State) : done s = .next (s.complete none) := rfl

theorem raise_eq (k : ErrorKind) (s : State) : raise k s = .next (s.complete (some k)) := rfl

theorem storeDecoded_some (d : AReg) (A : Affine) (s : State) : storeDecoded d (some A) s = .next ((s.setA d A).complete none) := rfl

theorem storeDecoded_none (d : AReg) (s : State) : storeDecoded d none s = .next (s.complete (some .malformedEncoding)) := rfl

theorem ErrorKind.code_ne_zero (k : ErrorKind) : k.code ≠ 0 := by cases k <;> decide

/-- The STICKY bit of an error is the one its code numbers (10_state.md R67). -/
theorem ErrorKind.stickyBit_eq (k : ErrorKind) : k.stickyBit = 1#5 <<< (k.code.toNat - 1) := by cases k <;> decide

/-- A command's outcome: some files and FLAG, which are the old ones where it fails, and the bookkeeping of its code. -/
def Completes (s : State) (res : Result) : Prop :=
  ∃ (fs : Files) (flag : Bool) (code : Option ErrorKind),
    res = .next ({ s with files := fs, FLAG := flag }.complete code) ∧ (code ≠ none → fs = s.files ∧ flag = s.FLAG)

/-- A command that completes with a result. -/
theorem completes_done (s : State) (fs : Files) (flag : Bool) : Completes s (done { s with files := fs, FLAG := flag }) :=
  ⟨fs, flag, none, rfl, fun h => absurd rfl h⟩

/-- A command that completes with an error. -/
theorem completes_raise (s : State) (k : ErrorKind) : Completes s (raise k s) :=
  ⟨s.files, s.FLAG, some k, rfl, fun _ => ⟨rfl, rfl⟩⟩

theorem completes_storeDecoded (d : AReg) (q : Option Affine) (s : State) : Completes s (storeDecoded d q s) := by
  cases q with
  | none => exact completes_raise s _
  | some A => exact completes_done s _ _

theorem completes_fpSqrt (d a : FReg) (s : State) : Completes s (execFpSqrt d a s) := by
  unfold execFpSqrt
  split
  · exact completes_done s _ _
  · exact completes_raise s _

theorem completes_scSqrt (d a : SReg) (s : State) : Completes s (execScSqrt d a s) := by
  unfold execScSqrt
  split
  · exact completes_done s _ _
  · exact completes_raise s _

theorem completes_fp2Inv (d a : EReg) (s : State) : Completes s (execFp2Inv d a s) := by
  unfold execFp2Inv
  split
  · exact completes_done s _ _
  · exact completes_raise s _

theorem completes_fp2Sqrt (d a : EReg) (s : State) : Completes s (execFp2Sqrt d a s) := by
  unfold execFp2Sqrt
  split
  · exact completes_done s _ _
  · exact completes_raise s _

theorem completes_fpInv (d a : FReg) (s : State) : Completes s (execFpInv d a s) := by
  unfold execFpInv
  split
  · exact completes_raise s _
  · exact completes_done s _ _

theorem completes_fpFrombytes (d : FReg) (s : State) : Completes s (execFpFrombytes d s) := by
  unfold execFpFrombytes
  split
  · exact completes_raise s _
  · exact completes_done s _ _

theorem completes_scInv (d a : SReg) (s : State) : Completes s (execScInv d a s) := by
  unfold execScInv
  split
  · exact completes_raise s _
  · exact completes_done s _ _

theorem completes_scFrombytes (d : SReg) (s : State) : Completes s (execScFrombytes d s) := by
  unfold execScFrombytes
  split
  · exact completes_raise s _
  · exact completes_done s _ _

theorem completes_fpSop (d a b : FReg) (n : Count) (s : State) : Completes s (execFpSop d a b n s) := by
  unfold execFpSop
  split
  · exact completes_done s _ _
  · exact completes_raise s _

theorem completes_ppBatchnorm (d : AReg) (a : PReg) (n : Count) (s : State) : Completes s (execPpBatchnorm d a n s) := by
  unfold execPpBatchnorm
  split
  · exact completes_done s _ _
  · exact completes_raise s _

theorem completes_paFromcomp (d : AReg) (s : State) : Completes s (execPaFromcomp d s) := by
  unfold execPaFromcomp
  exact completes_storeDecoded _ _ s

theorem completes_paFromcompu (d : AReg) (s : State) : Completes s (execPaFromcompu d s) := by
  unfold execPaFromcompu
  exact completes_storeDecoded _ _ s

theorem completes_paFromuncomp (d : AReg) (s : State) : Completes s (execPaFromuncomp d s) := by
  unfold execPaFromuncomp
  exact completes_storeDecoded _ _ s

theorem completes_paFromuncompu (d : AReg) (s : State) : Completes s (execPaFromuncompu d s) := by
  unfold execPaFromuncompu
  exact completes_storeDecoded _ _ s

/-- Every command has an outcome of this one form, on every state. -/
theorem exec_completes (i : Instr) (s : State) : Completes s (exec i s) := by
  cases i with
  | fpSqrt d a => exact completes_fpSqrt d a s
  | scSqrt d a => exact completes_scSqrt d a s
  | fp2Inv d a => exact completes_fp2Inv d a s
  | fp2Sqrt d a => exact completes_fp2Sqrt d a s
  | fpInv d a => exact completes_fpInv d a s
  | fpFrombytes d => exact completes_fpFrombytes d s
  | scInv d a => exact completes_scInv d a s
  | scFrombytes d => exact completes_scFrombytes d s
  | fpSop d a b n => exact completes_fpSop d a b n s
  | ppBatchnorm d a n => exact completes_ppBatchnorm d a n s
  | paFromcomp d => exact completes_paFromcomp d s
  | paFromcompu d => exact completes_paFromcompu d s
  | paFromuncomp d => exact completes_paFromuncomp d s
  | paFromuncompu d => exact completes_paFromuncompu d s
  | _ => exact completes_done s _ _

end Sys2Proof.Machine
end

