-- ==== Sys2Proof/Laws/PerInstr.lean ====
section
/-! SUPPORT. Laws/PerInstr.lean: what is said of every command as syntax, one lemma for each constructor: its word carries the opcode
of its row and its fields, and the reserved byte 0 (30_encoding.md R171, R177, R178, R185). -/

namespace Sys2Proof.Laws

/-- The word of a command has the fields of the command, and the reserved byte `z = w[7:0]` is 0. -/
def FieldLayout.Statement (i : Instr) : Prop :=
  fieldsOf (encode i) = i.fields ∧ (fieldsOf (encode i)).z = 0

theorem fieldLayout_of_z {i : Instr} (h : i.fields.z = 0) : FieldLayout.Statement i := by
  unfold FieldLayout.Statement encode
  rw [fieldsOf_pack]
  exact ⟨rfl, h⟩

theorem FieldLayout.nop : FieldLayout.Statement .nop := fieldLayout_of_z rfl
theorem FieldLayout.fpZero (d : FReg) : FieldLayout.Statement (.fpZero d) := fieldLayout_of_z rfl
theorem FieldLayout.fpOne (d : FReg) : FieldLayout.Statement (.fpOne d) := fieldLayout_of_z rfl
theorem FieldLayout.fpMov (d : FReg) (a : FReg) : FieldLayout.Statement (.fpMov d a) := fieldLayout_of_z rfl
theorem FieldLayout.fpIszero (a : FReg) : FieldLayout.Statement (.fpIszero a) := fieldLayout_of_z rfl
theorem FieldLayout.fpEq (a : FReg) (b : FReg) : FieldLayout.Statement (.fpEq a b) := fieldLayout_of_z rfl
theorem FieldLayout.fpAdd (d : FReg) (a : FReg) (b : FReg) : FieldLayout.Statement (.fpAdd d a b) := fieldLayout_of_z rfl
theorem FieldLayout.fpSub (d : FReg) (a : FReg) (b : FReg) : FieldLayout.Statement (.fpSub d a b) := fieldLayout_of_z rfl
theorem FieldLayout.fpNeg (d : FReg) (a : FReg) : FieldLayout.Statement (.fpNeg d a) := fieldLayout_of_z rfl
theorem FieldLayout.fpMul (d : FReg) (a : FReg) (b : FReg) : FieldLayout.Statement (.fpMul d a b) := fieldLayout_of_z rfl
theorem FieldLayout.fpSqr (d : FReg) (a : FReg) : FieldLayout.Statement (.fpSqr d a) := fieldLayout_of_z rfl
theorem FieldLayout.fpInv (d : FReg) (a : FReg) : FieldLayout.Statement (.fpInv d a) := fieldLayout_of_z rfl
theorem FieldLayout.fpSqrt (d : FReg) (a : FReg) : FieldLayout.Statement (.fpSqrt d a) := fieldLayout_of_z rfl
theorem FieldLayout.fpLexl (a : FReg) : FieldLayout.Statement (.fpLexl a) := fieldLayout_of_z rfl
theorem FieldLayout.fpTobytes (a : FReg) : FieldLayout.Statement (.fpTobytes a) := fieldLayout_of_z rfl
theorem FieldLayout.fpFrombytes (d : FReg) : FieldLayout.Statement (.fpFrombytes d) := fieldLayout_of_z rfl
theorem FieldLayout.fpSop (d : FReg) (a : FReg) (b : FReg) (n : Count) : FieldLayout.Statement (.fpSop d a b n) := fieldLayout_of_z rfl
theorem FieldLayout.fp2Zero (d : EReg) : FieldLayout.Statement (.fp2Zero d) := fieldLayout_of_z rfl
theorem FieldLayout.fp2One (d : EReg) : FieldLayout.Statement (.fp2One d) := fieldLayout_of_z rfl
theorem FieldLayout.fp2Mov (d : EReg) (a : EReg) : FieldLayout.Statement (.fp2Mov d a) := fieldLayout_of_z rfl
theorem FieldLayout.fp2Pack (d : EReg) (a : FReg) (b : FReg) : FieldLayout.Statement (.fp2Pack d a b) := fieldLayout_of_z rfl
theorem FieldLayout.fp2C0 (d : FReg) (a : EReg) : FieldLayout.Statement (.fp2C0 d a) := fieldLayout_of_z rfl
theorem FieldLayout.fp2C1 (d : FReg) (a : EReg) : FieldLayout.Statement (.fp2C1 d a) := fieldLayout_of_z rfl
theorem FieldLayout.fp2Iszero (a : EReg) : FieldLayout.Statement (.fp2Iszero a) := fieldLayout_of_z rfl
theorem FieldLayout.fp2Eq (a : EReg) (b : EReg) : FieldLayout.Statement (.fp2Eq a b) := fieldLayout_of_z rfl
theorem FieldLayout.fp2Add (d : EReg) (a : EReg) (b : EReg) : FieldLayout.Statement (.fp2Add d a b) := fieldLayout_of_z rfl
theorem FieldLayout.fp2Sub (d : EReg) (a : EReg) (b : EReg) : FieldLayout.Statement (.fp2Sub d a b) := fieldLayout_of_z rfl
theorem FieldLayout.fp2Neg (d : EReg) (a : EReg) : FieldLayout.Statement (.fp2Neg d a) := fieldLayout_of_z rfl
theorem FieldLayout.fp2Mul (d : EReg) (a : EReg) (b : EReg) : FieldLayout.Statement (.fp2Mul d a b) := fieldLayout_of_z rfl
theorem FieldLayout.fp2Sqr (d : EReg) (a : EReg) : FieldLayout.Statement (.fp2Sqr d a) := fieldLayout_of_z rfl
theorem FieldLayout.fp2Conj (d : EReg) (a : EReg) : FieldLayout.Statement (.fp2Conj d a) := fieldLayout_of_z rfl
theorem FieldLayout.fp2Frob (d : EReg) (a : EReg) : FieldLayout.Statement (.fp2Frob d a) := fieldLayout_of_z rfl
theorem FieldLayout.fp2Mulnr (d : EReg) (a : EReg) : FieldLayout.Statement (.fp2Mulnr d a) := fieldLayout_of_z rfl
theorem FieldLayout.fp2Inv (d : EReg) (a : EReg) : FieldLayout.Statement (.fp2Inv d a) := fieldLayout_of_z rfl
theorem FieldLayout.fp2Sqrt (d : EReg) (a : EReg) : FieldLayout.Statement (.fp2Sqrt d a) := fieldLayout_of_z rfl
theorem FieldLayout.fp2Pow (d : EReg) (a : EReg) (b : FReg) : FieldLayout.Statement (.fp2Pow d a b) := fieldLayout_of_z rfl
theorem FieldLayout.scZero (d : SReg) : FieldLayout.Statement (.scZero d) := fieldLayout_of_z rfl
theorem FieldLayout.scOne (d : SReg) : FieldLayout.Statement (.scOne d) := fieldLayout_of_z rfl
theorem FieldLayout.scMov (d : SReg) (a : SReg) : FieldLayout.Statement (.scMov d a) := fieldLayout_of_z rfl
theorem FieldLayout.scIszero (a : SReg) : FieldLayout.Statement (.scIszero a) := fieldLayout_of_z rfl
theorem FieldLayout.scEq (a : SReg) (b : SReg) : FieldLayout.Statement (.scEq a b) := fieldLayout_of_z rfl
theorem FieldLayout.scAdd (d : SReg) (a : SReg) (b : SReg) : FieldLayout.Statement (.scAdd d a b) := fieldLayout_of_z rfl
theorem FieldLayout.scSub (d : SReg) (a : SReg) (b : SReg) : FieldLayout.Statement (.scSub d a b) := fieldLayout_of_z rfl
theorem FieldLayout.scNeg (d : SReg) (a : SReg) : FieldLayout.Statement (.scNeg d a) := fieldLayout_of_z rfl
theorem FieldLayout.scMul (d : SReg) (a : SReg) (b : SReg) : FieldLayout.Statement (.scMul d a b) := fieldLayout_of_z rfl
theorem FieldLayout.scSqr (d : SReg) (a : SReg) : FieldLayout.Statement (.scSqr d a) := fieldLayout_of_z rfl
theorem FieldLayout.scInv (d : SReg) (a : SReg) : FieldLayout.Statement (.scInv d a) := fieldLayout_of_z rfl
theorem FieldLayout.scSqrt (d : SReg) (a : SReg) : FieldLayout.Statement (.scSqrt d a) := fieldLayout_of_z rfl
theorem FieldLayout.scPow (d : SReg) (a : SReg) (b : SReg) : FieldLayout.Statement (.scPow d a b) := fieldLayout_of_z rfl
theorem FieldLayout.scTobytes (a : SReg) : FieldLayout.Statement (.scTobytes a) := fieldLayout_of_z rfl
theorem FieldLayout.scFrombytes (d : SReg) : FieldLayout.Statement (.scFrombytes d) := fieldLayout_of_z rfl
theorem FieldLayout.scFromwide (d : SReg) : FieldLayout.Statement (.scFromwide d) := fieldLayout_of_z rfl
theorem FieldLayout.paIdentity (d : AReg) : FieldLayout.Statement (.paIdentity d) := fieldLayout_of_z rfl
theorem FieldLayout.paGen (d : AReg) : FieldLayout.Statement (.paGen d) := fieldLayout_of_z rfl
theorem FieldLayout.paMov (d : AReg) (a : AReg) : FieldLayout.Statement (.paMov d a) := fieldLayout_of_z rfl
theorem FieldLayout.paSet (d : AReg) (a : FReg) (b : FReg) : FieldLayout.Statement (.paSet d a b) := fieldLayout_of_z rfl
theorem FieldLayout.paGetx (d : FReg) (a : AReg) : FieldLayout.Statement (.paGetx d a) := fieldLayout_of_z rfl
theorem FieldLayout.paGety (d : FReg) (a : AReg) : FieldLayout.Statement (.paGety d a) := fieldLayout_of_z rfl
theorem FieldLayout.paIsid (a : AReg) : FieldLayout.Statement (.paIsid a) := fieldLayout_of_z rfl
theorem FieldLayout.paOncurve (a : AReg) : FieldLayout.Statement (.paOncurve a) := fieldLayout_of_z rfl
theorem FieldLayout.paTorsionfree (a : AReg) : FieldLayout.Statement (.paTorsionfree a) := fieldLayout_of_z rfl
theorem FieldLayout.paEq (a : AReg) (b : AReg) : FieldLayout.Statement (.paEq a b) := fieldLayout_of_z rfl
theorem FieldLayout.paNeg (d : AReg) (a : AReg) : FieldLayout.Statement (.paNeg d a) := fieldLayout_of_z rfl
theorem FieldLayout.paEndo (d : AReg) (a : AReg) : FieldLayout.Statement (.paEndo d a) := fieldLayout_of_z rfl
theorem FieldLayout.paFromproj (d : AReg) (a : PReg) : FieldLayout.Statement (.paFromproj d a) := fieldLayout_of_z rfl
theorem FieldLayout.paAdd (d : PReg) (a : AReg) (b : AReg) : FieldLayout.Statement (.paAdd d a b) := fieldLayout_of_z rfl
theorem FieldLayout.paMul (d : PReg) (a : AReg) (b : SReg) : FieldLayout.Statement (.paMul d a b) := fieldLayout_of_z rfl
theorem FieldLayout.paTocomp (a : AReg) : FieldLayout.Statement (.paTocomp a) := fieldLayout_of_z rfl
theorem FieldLayout.paTouncomp (a : AReg) : FieldLayout.Statement (.paTouncomp a) := fieldLayout_of_z rfl
theorem FieldLayout.paFromcomp (d : AReg) : FieldLayout.Statement (.paFromcomp d) := fieldLayout_of_z rfl
theorem FieldLayout.paFromcompu (d : AReg) : FieldLayout.Statement (.paFromcompu d) := fieldLayout_of_z rfl
theorem FieldLayout.paFromuncomp (d : AReg) : FieldLayout.Statement (.paFromuncomp d) := fieldLayout_of_z rfl
theorem FieldLayout.paFromuncompu (d : AReg) : FieldLayout.Statement (.paFromuncompu d) := fieldLayout_of_z rfl
theorem FieldLayout.ppIdentity (d : PReg) : FieldLayout.Statement (.ppIdentity d) := fieldLayout_of_z rfl
theorem FieldLayout.ppGen (d : PReg) : FieldLayout.Statement (.ppGen d) := fieldLayout_of_z rfl
theorem FieldLayout.ppMov (d : PReg) (a : PReg) : FieldLayout.Statement (.ppMov d a) := fieldLayout_of_z rfl
theorem FieldLayout.ppSet (d : PReg) (a : FReg) (b : FReg) (c : FReg) : FieldLayout.Statement (.ppSet d a b c) := fieldLayout_of_z rfl
theorem FieldLayout.ppGetx (d : FReg) (a : PReg) : FieldLayout.Statement (.ppGetx d a) := fieldLayout_of_z rfl
theorem FieldLayout.ppGety (d : FReg) (a : PReg) : FieldLayout.Statement (.ppGety d a) := fieldLayout_of_z rfl
theorem FieldLayout.ppGetz (d : FReg) (a : PReg) : FieldLayout.Statement (.ppGetz d a) := fieldLayout_of_z rfl
theorem FieldLayout.ppFromaff (d : PReg) (a : AReg) : FieldLayout.Statement (.ppFromaff d a) := fieldLayout_of_z rfl
theorem FieldLayout.ppIsid (a : PReg) : FieldLayout.Statement (.ppIsid a) := fieldLayout_of_z rfl
theorem FieldLayout.ppOncurve (a : PReg) : FieldLayout.Statement (.ppOncurve a) := fieldLayout_of_z rfl
theorem FieldLayout.ppEq (a : PReg) (b : PReg) : FieldLayout.Statement (.ppEq a b) := fieldLayout_of_z rfl
theorem FieldLayout.ppNeg (d : PReg) (a : PReg) : FieldLayout.Statement (.ppNeg d a) := fieldLayout_of_z rfl
theorem FieldLayout.ppDbl (d : PReg) (a : PReg) : FieldLayout.Statement (.ppDbl d a) := fieldLayout_of_z rfl
theorem FieldLayout.ppAdd (d : PReg) (a : PReg) (b : PReg) : FieldLayout.Statement (.ppAdd d a b) := fieldLayout_of_z rfl
theorem FieldLayout.ppSub (d : PReg) (a : PReg) (b : PReg) : FieldLayout.Statement (.ppSub d a b) := fieldLayout_of_z rfl
theorem FieldLayout.ppAddm (d : PReg) (a : PReg) (b : AReg) : FieldLayout.Statement (.ppAddm d a b) := fieldLayout_of_z rfl
theorem FieldLayout.ppMul (d : PReg) (a : PReg) (b : SReg) : FieldLayout.Statement (.ppMul d a b) := fieldLayout_of_z rfl
theorem FieldLayout.ppClearcof (d : PReg) (a : PReg) : FieldLayout.Statement (.ppClearcof d a) := fieldLayout_of_z rfl
theorem FieldLayout.ppBatchnorm (d : AReg) (a : PReg) (n : Count) : FieldLayout.Statement (.ppBatchnorm d a n) := fieldLayout_of_z rfl

end Sys2Proof.Laws
end

