-- ==== Sys2Proof/Laws/Step.lean ====
section
/-! SUPPORT. Laws/Step.lean: what one step can be, by the head of the turns. -/

namespace Sys2Proof.Machine

/-- An accepted word completes in the form of every command. -/
theorem runWord_completes (w : Word) (s : State) : Completes s (runWord w s) := by
  unfold runWord
  split
  · exact exec_completes _ s
  · exact completes_raise s _

theorem step_host (s : State) (a : HostAccess) (rest : List Turn) (h : s.turns = .host a :: rest) :
    step s = .next ({ s with turns := rest }.access a) := by simp [step, takeTurn, h]

theorem step_powerOnReset (s : State) (rest : List Turn) (h : s.turns = .powerOnReset :: rest) :
    step s = .next ({ s with turns := rest }.resetCore) := by simp [step, takeTurn, h]

theorem step_core (s : State) (rest : List Turn) (h : s.turns = .core :: rest) :
    step s = coreTurn { s with turns := rest } := by simp [step, takeTurn, h]

theorem step_nil (s : State) (h : s.turns = []) : step s = coreTurn s := by simp [step, takeTurn, h]

theorem coreTurn_pending (s : State) (q : InFlight) (h : s.PENDING = some q) : coreTurn s = runWord q.word s := by
  simp [coreTurn, h]

theorem coreTurn_idle (s : State) (h : s.PENDING = none) : coreTurn s = .next s := by simp [coreTurn, h]

end Sys2Proof.Machine
end

