-- ==== Sys2Proof/Laws/Protocol.lean ====
section
/-! SUPPORT. Laws/Protocol.lean: how many turns the host protocol takes, runs put end to end, and one step of each kind of its turns. -/

namespace Sys2Proof.Machine

@[simp] theorem wait_none_length : (wait none).length = 1 := rfl
@[simp] theorem wait_some_length (n : Nat) : (wait (some n)).length = n + 2 := by simp [wait]
@[simp] theorem issue_length (first : Option Nat) (w : Word) (n : Nat) :
    (issue first w n).length = (wait first).length + 1 + (n + 2) + 1 := by simp [issue]; omega
@[simp] theorem loadBuf_length (k : Nat) (vs : List Word) : (loadBuf k vs).length = vs.length := by
  induction vs generalizing k with
  | nil => rfl
  | cons v vs ih => simp [loadBuf, ih]
@[simp] theorem readBuf_length (k n : Nat) : (readBuf k n).length = n := by
  induction n generalizing k with
  | zero => rfl
  | succ n ih => simp [readBuf, ih]

/-- A run of any machine that begins with a step to t goes on from t. -/
theorem run_succ_core (M : Host.Core) {s t : M.State} (h : M.step s = .next t) (k : Nat) : M.run (k + 1) s = M.run k t := by
  rw [Host.Core.run, h]

/-- A run of any machine that reaches t, then k steps more. -/
theorem run_add_core (M : Host.Core) {s t : M.State} {j : Nat} (h : M.run j s = .next t) (k : Nat) : M.run (j + k) s = M.run k t := by
  induction j generalizing s with
  | zero => cases h; rw [Nat.zero_add]
  | succ j ih =>
    rw [Nat.add_right_comm]
    rw [Host.Core.run] at h ⊢
    cases hs : M.step s with
    | next u => rw [hs] at h; exact ih h
    | fault r => rw [hs] at h; cases h
    | refused r => rw [hs] at h; cases h

theorem run_zero (s : State) : Sys2Proof.core.run 0 s = .next s := rfl

/-- A run that begins with a step to t goes on from t. -/
theorem run_succ {s t : State} (h : step s = .next t) (k : Nat) : Sys2Proof.core.run (k + 1) s = Sys2Proof.core.run k t :=
  run_succ_core Sys2Proof.core h k

/-- A run of j steps that reaches t, then k steps more. -/
theorem run_add {s t : State} {j : Nat} (h : Sys2Proof.core.run j s = .next t) (k : Nat) :
    Sys2Proof.core.run (j + k) s = Sys2Proof.core.run k t :=
  run_add_core Sys2Proof.core h k

/-- A poll reads STATUS and changes nothing else (20_memory.md R129). -/
theorem step_poll (s : State) (rest : List Turn) (h : s.turns = pollStatus :: rest) :
    step s = .next { s with turns := rest, readData := s.statusWord } := by
  rw [step_host s _ rest h]
  rfl

end Sys2Proof.Machine
end

