-- ==== Sys2Proof/Tests/Slice0.lean ====
section
/-! SUPPORT. Tests/Slice0.lean: the model's own tests. Expected results come from spec/95_test_vectors.md (the row is named at each
test), and the words of the decoding tests are put together by hand from the fields of 30_encoding.md R171 and the map R178. After
them stand the witnesses: for each statement of Obligations.lean with hypotheses, states and operands that meet them. -/

namespace Sys2Proof.Tests

set_option Elab.async false

open Sys2Proof Sys2Proof.Machine Sys2Proof.Spec

/-! ## Helpers -/

/-- What f sees after one command, none if the machine stopped. -/
def see {α : Type} (i : Instr) (s : State) (f : State → α) : Option α :=
  match exec i s with
  | .next t => some (f t)
  | _ => none

/-- ERR after one command. -/
def errOf (i : Instr) (s : State) : Option (BitVec 4) := see i s (·.ERR)
/-- FLAG after one command. -/
def flagOf (i : Instr) (s : State) : Option Bool := see i s (·.FLAG)

/-- The reset state with F1 and F2 set. -/
def inF (a b : Nat) : State := (State.reset.setF 1 a).setF 2 b
/-- The reset state with E1 and E2 set. -/
def inE (a b : Fp2) : State := (State.reset.setE 1 a).setE 2 b
/-- The reset state with S1 and S2 set. -/
def inS (a b : Nat) : State := (State.reset.setS 1 a).setS 2 b
/-- The reset state with A1 and A2 set. -/
def inA (a b : Affine) : State := (State.reset.setA 1 a).setA 2 b
/-- The reset state with P1 and P2 set. -/
def inP (a b : Proj) : State := (State.reset.setP 1 a).setP 2 b

/-- The n bytes of a numeral as it is written, the most significant first. -/
def bytesOf (n v : Nat) : List Byte := (List.range n).map fun k => BitVec.ofNat 8 (v >>> (8 * (n - 1 - k)))
/-- The reset state with the leading bytes of BUF set. -/
def inBuf (n v : Nat) : State := State.reset.setBuf (bytesOf n v)
/-- The first n bytes of BUF. -/
def bytesIn (n : Nat) (s : State) : List Byte := (List.range n).map (bufByte s.files.BUF)

/-- F3, E3, S3, A3, P3 of a state. -/
def F3 (s : State) : Nat := s.files.F[3]
def E3 (s : State) : Fp2 := s.files.E[3]
def S3 (s : State) : Nat := s.files.S[3]
def A3 (s : State) : Affine := s.files.A[3]
def P3 (s : State) : Proj := s.files.P[3]

/-- The values of spec/95_test_vectors.md section 2.4 and 2.5. -/
def G : Affine := ⟨Config.gx, Config.gy, false⟩
def Gp : Proj := ⟨Config.gx, Config.gy, 1⟩
def negY : Nat := 0x114d1d6855d545a8aa7d76c8cf2e21f267816aef1db507c96655b9d5caac42364e6f38ba0ecb751bad54dcd6b939c2ca
def Q4 : Affine := ⟨4, 0xa989badd40d6212b33cffc3f3763e9bc760f988c9926b26da9dd85e928483446346b8ed00e1de5d5ea93e354abe706c, false⟩
def twoG : Affine := ⟨0x572cbea904d67468808c8eb50a9450c9721db309128012543902d0ac358a62ae28f75bb8f1c7c42c39a8c5529bf0f4e,
  0x166a9d8cabc673a322fda673779d8e3822ba3ecb8670e461f73bb9021d5fd76a4c56d9d4cd16bd1bba86881979749d28, false⟩
def dblGp : Proj := ⟨0x5dff4ac6726c6cb9b6d4dac3f33e92c062e48a6104cc52f6e7f23d4350c60bd7803e16723f9f1478a13c2b29f4325ad,
  0x14e4b429606d02bc3c604c0410e5fc01d6093a00bb3e2bc9395952af0b6a0dbd599a8782a1bea48a2aa4d8e1b1df7ca5,
  0x430df56ea4aba6928180e61b1f2cb8f962f5650798fdf279a55bee62edcdb27c04c720ae01952ac770553ef06aadf22⟩
def oneGp : Proj := ⟨0x1144f72e5d8a469db166f58521e70676db2c6defa37e40da314436a0645f2511037bf2f1a83aa341bafe74514c615fae,
  0x64a3a594868a2a4dab071ff6d880ae0f459c87e11ab01b3454b95a7d6a93f853f6e07f754b6e7933799e0afe2779a56,
  0x8b3f481e3aaa0f1a09e30ed741d8ae4fcf5e095d5d00af600db18cb2c04b3edd03cc744a2888ae40caa232946c5e7e1⟩
def twiceGp : Proj := ⟨0x961d111c9da94c28d74e833ca26853dfff1083f4123c10bc1a4bee27e15f2af26437d12898d35e0cb9d5eea55b1e4a6,
  0x169dc6512a389a1cdbdae386e23990638784ab7a8b2e6663728a356e75b99ee52e92a5f5e7b6edfbe10f0c27f3cd48e1,
  0xd60ad610216da9a0e8c85d0fd8abe67bc3c00ff10671706862b3c76cde7a630dcdd3835cc3a8c202658a909579401f⟩
def compG : Nat := 0x97f1d3a73197d7942695638c4fa9ac0fc3688c4f9774b905a14e3a3f171bac586c55e83ff97a1aeffb3af00adb22c6bb
def uncompG : Nat := 0x17f1d3a73197d7942695638c4fa9ac0fc3688c4f9774b905a14e3a3f171bac586c55e83ff97a1aeffb3af00adb22c6bb08b3f481e3aaa0f1a09e30ed741d8ae4fcf5e095d5d00af600db18cb2c04b3edd03cc744a2888ae40caa232946c5e7e1

/-! ## WellFormed: each check refuses an ill-formed term -/

theorem test_sop_zero_count_refused : (Instr.fpSop 0 4 8 0).wellFormed = false := by decide
theorem test_sop_first_range_refused : (Instr.fpSop 0 15 2 2).wellFormed = false := by decide
theorem test_sop_second_range_refused : (Instr.fpSop 0 2 15 2).wellFormed = false := by decide
theorem test_sop_widest_accepted : (Instr.fpSop 0 1 1 15).wellFormed = true := by decide
theorem test_batch_zero_count_refused : (Instr.ppBatchnorm 0 0 0).wellFormed = false := by decide
theorem test_batch_destination_range_refused : (Instr.ppBatchnorm 7 0 2).wellFormed = false := by decide
theorem test_batch_source_range_refused : (Instr.ppBatchnorm 0 7 2).wellFormed = false := by decide
theorem test_batch_widest_accepted : (Instr.ppBatchnorm 0 0 8).wellFormed = true := by decide

/-! ## Decoding: every constructor by a word written out from its row -/

theorem test_decode_System_1 : decodeTableWord 32 0x00000000 = some (.nop) := by decide

theorem test_decode_Fp_1 : decodeTableWord 32 0x01D00000 = some (.fpZero 13) ∧
    decodeTableWord 32 0x02D00000 = some (.fpOne 13) ∧
    decodeTableWord 32 0x03DA0000 = some (.fpMov 13 10) ∧
    decodeTableWord 32 0x040A0000 = some (.fpIszero 10) ∧
    decodeTableWord 32 0x050A9000 = some (.fpEq 10 9) ∧
    decodeTableWord 32 0x06DA9000 = some (.fpAdd 13 10 9) ∧
    decodeTableWord 32 0x07DA9000 = some (.fpSub 13 10 9) := by decide

theorem test_decode_Fp_2 : decodeTableWord 32 0x08DA0000 = some (.fpNeg 13 10) ∧
    decodeTableWord 32 0x09DA9000 = some (.fpMul 13 10 9) ∧
    decodeTableWord 32 0x0ADA0000 = some (.fpSqr 13 10) ∧
    decodeTableWord 32 0x0BDA0000 = some (.fpInv 13 10) ∧
    decodeTableWord 32 0x0CDA0000 = some (.fpSqrt 13 10) ∧
    decodeTableWord 32 0x0D0A0000 = some (.fpLexl 10) ∧
    decodeTableWord 32 0x0E0A0000 = some (.fpTobytes 10) := by decide

theorem test_decode_Fp_3 : decodeTableWord 32 0x0FD00000 = some (.fpFrombytes 13) ∧
    decodeTableWord 32 0x10DA9500 = some (.fpSop 13 10 9 5) := by decide

theorem test_decode_Fp2_1 : decodeTableWord 32 0x20500000 = some (.fp2Zero 5) ∧
    decodeTableWord 32 0x21500000 = some (.fp2One 5) ∧
    decodeTableWord 32 0x22560000 = some (.fp2Mov 5 6) ∧
    decodeTableWord 32 0x235A9000 = some (.fp2Pack 5 10 9) ∧
    decodeTableWord 32 0x24D60000 = some (.fp2C0 13 6) ∧
    decodeTableWord 32 0x25D60000 = some (.fp2C1 13 6) ∧
    decodeTableWord 32 0x26060000 = some (.fp2Iszero 6) := by decide

theorem test_decode_Fp2_2 : decodeTableWord 32 0x27063000 = some (.fp2Eq 6 3) ∧
    decodeTableWord 32 0x28563000 = some (.fp2Add 5 6 3) ∧
    decodeTableWord 32 0x29563000 = some (.fp2Sub 5 6 3) ∧
    decodeTableWord 32 0x2A560000 = some (.fp2Neg 5 6) ∧
    decodeTableWord 32 0x2B563000 = some (.fp2Mul 5 6 3) ∧
    decodeTableWord 32 0x2C560000 = some (.fp2Sqr 5 6) ∧
    decodeTableWord 32 0x2D560000 = some (.fp2Conj 5 6) := by decide

theorem test_decode_Fp2_3 : decodeTableWord 32 0x2E560000 = some (.fp2Frob 5 6) ∧
    decodeTableWord 32 0x2F560000 = some (.fp2Mulnr 5 6) ∧
    decodeTableWord 32 0x30560000 = some (.fp2Inv 5 6) ∧
    decodeTableWord 32 0x31560000 = some (.fp2Sqrt 5 6) ∧
    decodeTableWord 32 0x32569000 = some (.fp2Pow 5 6 9) := by decide

theorem test_decode_Scalar_1 : decodeTableWord 32 0x40700000 = some (.scZero 7) ∧
    decodeTableWord 32 0x41700000 = some (.scOne 7) ∧
    decodeTableWord 32 0x42740000 = some (.scMov 7 4) ∧
    decodeTableWord 32 0x43040000 = some (.scIszero 4) ∧
    decodeTableWord 32 0x44041000 = some (.scEq 4 1) ∧
    decodeTableWord 32 0x45741000 = some (.scAdd 7 4 1) ∧
    decodeTableWord 32 0x46741000 = some (.scSub 7 4 1) := by decide

theorem test_decode_Scalar_2 : decodeTableWord 32 0x47740000 = some (.scNeg 7 4) ∧
    decodeTableWord 32 0x48741000 = some (.scMul 7 4 1) ∧
    decodeTableWord 32 0x49740000 = some (.scSqr 7 4) ∧
    decodeTableWord 32 0x4A740000 = some (.scInv 7 4) ∧
    decodeTableWord 32 0x4B740000 = some (.scSqrt 7 4) ∧
    decodeTableWord 32 0x4C741000 = some (.scPow 7 4 1) ∧
    decodeTableWord 32 0x4D040000 = some (.scTobytes 4) := by decide

theorem test_decode_Scalar_3 : decodeTableWord 32 0x4E700000 = some (.scFrombytes 7) ∧
    decodeTableWord 32 0x4F700000 = some (.scFromwide 7) := by decide

theorem test_decode_Affine_1 : decodeTableWord 32 0x60300000 = some (.paIdentity 3) ∧
    decodeTableWord 32 0x61300000 = some (.paGen 3) ∧
    decodeTableWord 32 0x62370000 = some (.paMov 3 7) ∧
    decodeTableWord 32 0x633A9000 = some (.paSet 3 10 9) ∧
    decodeTableWord 32 0x64D70000 = some (.paGetx 13 7) ∧
    decodeTableWord 32 0x65D70000 = some (.paGety 13 7) ∧
    decodeTableWord 32 0x66070000 = some (.paIsid 7) := by decide

theorem test_decode_Affine_2 : decodeTableWord 32 0x67070000 = some (.paOncurve 7) ∧
    decodeTableWord 32 0x68070000 = some (.paTorsionfree 7) ∧
    decodeTableWord 32 0x69075000 = some (.paEq 7 5) ∧
    decodeTableWord 32 0x6A370000 = some (.paNeg 3 7) ∧
    decodeTableWord 32 0x6B370000 = some (.paEndo 3 7) ∧
    decodeTableWord 32 0x6C320000 = some (.paFromproj 3 2) ∧
    decodeTableWord 32 0x6D675000 = some (.paAdd 6 7 5) := by decide

theorem test_decode_Affine_3 : decodeTableWord 32 0x6E671000 = some (.paMul 6 7 1) ∧
    decodeTableWord 32 0x6F070000 = some (.paTocomp 7) ∧
    decodeTableWord 32 0x70070000 = some (.paTouncomp 7) ∧
    decodeTableWord 32 0x71300000 = some (.paFromcomp 3) ∧
    decodeTableWord 32 0x72300000 = some (.paFromcompu 3) ∧
    decodeTableWord 32 0x73300000 = some (.paFromuncomp 3) ∧
    decodeTableWord 32 0x74300000 = some (.paFromuncompu 3) := by decide

theorem test_decode_Projective_1 : decodeTableWord 32 0x80600000 = some (.ppIdentity 6) ∧
    decodeTableWord 32 0x81600000 = some (.ppGen 6) ∧
    decodeTableWord 32 0x82620000 = some (.ppMov 6 2) ∧
    decodeTableWord 32 0x836A9E00 = some (.ppSet 6 10 9 14) ∧
    decodeTableWord 32 0x84D20000 = some (.ppGetx 13 2) ∧
    decodeTableWord 32 0x85D20000 = some (.ppGety 13 2) ∧
    decodeTableWord 32 0x86D20000 = some (.ppGetz 13 2) := by decide

theorem test_decode_Projective_2 : decodeTableWord 32 0x87670000 = some (.ppFromaff 6 7) ∧
    decodeTableWord 32 0x88020000 = some (.ppIsid 2) ∧
    decodeTableWord 32 0x89020000 = some (.ppOncurve 2) ∧
    decodeTableWord 32 0x8A027000 = some (.ppEq 2 7) ∧
    decodeTableWord 32 0x8B620000 = some (.ppNeg 6 2) ∧
    decodeTableWord 32 0x8C620000 = some (.ppDbl 6 2) ∧
    decodeTableWord 32 0x8D627000 = some (.ppAdd 6 2 7) := by decide

theorem test_decode_Projective_3 : decodeTableWord 32 0x8E627000 = some (.ppSub 6 2 7) ∧
    decodeTableWord 32 0x8F625000 = some (.ppAddm 6 2 5) ∧
    decodeTableWord 32 0x90621000 = some (.ppMul 6 2 1) ∧
    decodeTableWord 32 0x91620000 = some (.ppClearcof 6 2) ∧
    decodeTableWord 32 0x92320200 = some (.ppBatchnorm 3 2 2) := by decide

/-- V-SYS-2 to V-SYS-5, V-SYS-7, V-SYS-8, V-SYS-10, V-SYS-11, V-SYS-13, V-SYS-15, V-SYS-16. -/
theorem test_illegal_words : [0x00000001#32, 0x00100000#32, 0x11000000#32, 0xFF000000#32, 0x01010000#32, 0x2B800000#32, 0x10000000#32,
    0x100F2200#32, 0x92070200#32, 0x92001100#32, 0x83FFFF00#32].all isIllegal = true := by decide +kernel

/-- V-SYS-1, V-SYS-6, V-SYS-9, V-SYS-12, V-SYS-14, V-SYS-17, V-SYS-18. -/
theorem test_legal_words : [0x00000000#32, 0x01F00000#32, 0x2B700000#32, 0x100E2200#32, 0x92060200#32, 0x837FEF00#32, 0x09312000#32].all
    (fun w => !isIllegal w) = true := by decide +kernel

/-- No word matches two rows of the opcode map. -/
theorem test_opcode_map_has_no_overlap :
    opcodeTable.Pairwise (fun x y => x.pattern &&& (x.mask &&& y.mask) ≠ y.pattern &&& (x.mask &&& y.mask)) := by decide +kernel

/-- The example line of 30_encoding.md R185, a pseudo-instruction of R189, and a line that is rejected (R188). -/
theorem test_assembler : (assembleText "fp.mul f3, f1, f2").toOption = some 0x09312000#32 ∧
    (assembleText "fp.dbl f3, f1").toOption = some 0x06311000#32 ∧ (assembleText "fp2.mul e8, e0, e0").toOption = none := by decide +kernel

/-! ## Fp (V-FP-1 to V-FP-20) -/

/-- V-SYS-1: ERR back to 0, FLAG and STICKY kept. -/
theorem test_nop : see .nop { State.reset with ERR := 3, FLAG := true, STICKY := 5 } (fun t => (t.ERR, t.FLAG, t.STICKY)) = some (0, true, 5) := by decide +kernel

/-- V-FP-20. -/
theorem test_fpZero_fpOne : see (.fpZero 3) (State.reset.setF 3 9) F3 = some 0 ∧
    see (.fpOne 3) (State.reset) F3 = some 1 := by decide +kernel

/-- V-FP-20. -/
theorem test_fpMov : see (.fpMov 3 1) (inF 7 8) F3 = some 7 := by decide +kernel

/-- V-FP-19. -/
theorem test_fpIszero_fpEq : flagOf (.fpIszero 1) (inF 0 1) = some true ∧
    flagOf (.fpEq 1 2) (inF 1 1) = some true ∧
    flagOf (.fpEq 1 2) (inF 1 (Config.p - 1)) = some false := by decide +kernel

/-- V-FP-1, V-FP-2. -/
theorem test_fpAdd : see (.fpAdd 3 1 2) (inF (Config.p - 1) 1) F3 = some 0 ∧
    see (.fpAdd 3 1 2) (inF (Config.p - 1) (Config.p - 1)) F3 = some 0x1a0111ea397fe69a4b1ba7b6434bacd764774b84f38512bf6730d2a0f6b0f6241eabfffeb153ffffb9feffffffffaaa9 := by decide +kernel

/-- V-FP-3. -/
theorem test_fpSub : see (.fpSub 3 1 2) (inF 0 1) F3 = some 0x1a0111ea397fe69a4b1ba7b6434bacd764774b84f38512bf6730d2a0f6b0f6241eabfffeb153ffffb9feffffffffaaaa := by decide +kernel

/-- V-FP-4. -/
theorem test_fpNeg : see (.fpNeg 3 1) (inF 0 5) F3 = some 0 ∧
    see (.fpNeg 3 1) (inF 1 5) F3 = some (Config.p - 1) := by decide +kernel

/-- V-FP-5, V-FP-6; the second with a source as the destination. -/
theorem test_fpMul : see (.fpMul 3 1 2) (inF (Config.p - 1) (Config.p - 1)) F3 = some 1 ∧
    see (.fpMul 1 1 2) (inF 2 ((Config.p + 1) / 2)) (·.files.F[1]) = some 1 := by decide +kernel

/-- V-FP-7. -/
theorem test_fpSqr : see (.fpSqr 3 1) (inF (2 ^ 200) 5) F3 = some 0x156da47f12866eb6385c20d323ecf271e3e8a053a4e6fe970983e84ef6697c988670deb2699eb12856350003480e6299 := by decide +kernel

/-- V-FP-8, V-FP-8z. -/
theorem test_fpInv : see (.fpInv 3 1) (inF 2 5) F3 = some 0xd0088f51cbff34d258dd3db21a5d66bb23ba5c279c2895fb39869507b587b120f55ffff58a9ffffdcff7fffffffd556 ∧
    errOf (.fpInv 3 1) (inF 0 5) = some 1 := by decide +kernel

/-- V-FP-9, V-FP-10, V-FP-11. -/
theorem test_fpSqrt : see (.fpSqrt 3 1) (inF 4 5) F3 = some (Config.p - 2) ∧
    errOf (.fpSqrt 3 1) (inF 0 5) = some 0 ∧
    errOf (.fpSqrt 3 1) (inF 2 5) = some 2 := by decide +kernel

/-- V-FP-12. -/
theorem test_fpLexl : flagOf (.fpLexl 1) (inF ((Config.p - 1) / 2) 0) = some false ∧
    flagOf (.fpLexl 1) (inF ((Config.p + 1) / 2) 0) = some true := by decide +kernel

/-- V-FP-13: BUF[48] is kept. -/
theorem test_fpTobytes : see (.fpTobytes 1) ((inF 1 0).setBuf (List.replicate 49 0xAA)) (bytesIn 49) = some (List.replicate 47 0 ++ [1, 0xAA]) := by decide +kernel

/-- V-FP-14, V-FP-15. -/
theorem test_fpFrombytes : see (.fpFrombytes 3) (inBuf 48 0x1a0111ea397fe69a4b1ba7b6434bacd764774b84f38512bf6730d2a0f6b0f6241eabfffeb153ffffb9feffffffffaaaa) F3 = some (Config.p - 1) ∧
    errOf (.fpFrombytes 3) (inBuf 48 0x1a0111ea397fe69a4b1ba7b6434bacd764774b84f38512bf6730d2a0f6b0f6241eabfffeb153ffffb9feffffffffaaab) = some 3 := by decide +kernel

/-- V-FP-17, and R255 at n = 1. -/
theorem test_fpSop : see (.fpSop 3 4 8 2) ((((State.reset.setF 4 2).setF 5 3).setF 8 4).setF 9 5) F3 = some 0x17 ∧
    see (.fpSop 3 1 2 1) (inF (Config.p - 1) (Config.p - 1)) F3 = some 1 := by decide +kernel

/-! ## Fp2 (V-FP2-1 to V-FP2-17) -/

/-- 41_fp2.md R301, R302. -/
theorem test_fp2Zero_fp2One : see (.fp2Zero 3) (State.reset.setE 3 ⟨1, 1⟩) E3 = some ⟨0, 0⟩ ∧
    see (.fp2One 3) (State.reset) E3 = some ⟨1, 0⟩ := by decide +kernel

/-- 41_fp2.md R303. -/
theorem test_fp2Mov : see (.fp2Mov 3 1) (inE ⟨1, 2⟩ ⟨3, 4⟩) E3 = some ⟨1, 2⟩ := by decide +kernel

/-- V-FP2-16. -/
theorem test_fp2Pack_fp2C0_fp2C1 : see (.fp2Pack 3 1 2) (inF 7 9) E3 = some ⟨7, 9⟩ ∧
    see (.fp2C0 3 1) (inE ⟨7, 9⟩ ⟨0, 0⟩) F3 = some 7 ∧
    see (.fp2C1 3 1) (inE ⟨7, 9⟩ ⟨0, 0⟩) F3 = some 9 := by decide +kernel

/-- V-FP2-17. -/
theorem test_fp2Iszero_fp2Eq : flagOf (.fp2Iszero 1) (inE ⟨0, 0⟩ ⟨0, 0⟩) = some true ∧
    flagOf (.fp2Iszero 1) (inE ⟨0, 1⟩ ⟨0, 0⟩) = some false ∧
    flagOf (.fp2Eq 1 2) (inE ⟨1, 2⟩ ⟨1, 2⟩) = some true ∧
    flagOf (.fp2Eq 1 2) (inE ⟨1, 2⟩ ⟨2, 1⟩) = some false := by decide +kernel

/-- V-FP2-3. -/
theorem test_fp2Add_fp2Sub : see (.fp2Add 3 1 2) (inE ⟨(Config.p - 1), 1⟩ ⟨1, (Config.p - 1)⟩) E3 = some ⟨0, 0⟩ ∧
    see (.fp2Sub 3 1 2) (inE ⟨(Config.p - 1), 1⟩ ⟨1, (Config.p - 1)⟩) E3 = some ⟨Config.p - 2, 2⟩ := by decide +kernel

/-- V-FP2-4. -/
theorem test_fp2Neg_fp2Conj_fp2Frob : see (.fp2Neg 3 1) (inE ⟨1, 2⟩ ⟨3, 4⟩) E3 = some ⟨Config.p - 1, Config.p - 2⟩ ∧
    see (.fp2Conj 3 1) (inE ⟨1, 2⟩ ⟨3, 4⟩) E3 = some ⟨1, Config.p - 2⟩ ∧
    see (.fp2Frob 3 1) (inE ⟨1, 2⟩ ⟨3, 4⟩) E3 = some ⟨1, Config.p - 2⟩ := by decide +kernel

/-- V-FP2-1, V-FP2-2, V-FP2-5. -/
theorem test_fp2Mul_fp2Sqr_fp2Mulnr : see (.fp2Mul 3 1 2) (inE ⟨1, 2⟩ ⟨3, 4⟩) E3 = some ⟨Config.p - 5, 10⟩ ∧
    see (.fp2Sqr 3 1) (inE ⟨1, 2⟩ ⟨3, 4⟩) E3 = some ⟨Config.p - 3, 4⟩ ∧
    see (.fp2Mulnr 3 1) (inE ⟨1, 2⟩ ⟨3, 4⟩) E3 = some ⟨Config.p - 1, 3⟩ := by decide +kernel

/-- V-FP2-6, V-FP2-6z. -/
theorem test_fp2Inv : see (.fp2Inv 3 1) (inE ⟨1, 1⟩ ⟨0, 0⟩) E3 = some ⟨(Config.p + 1) / 2, (Config.p - 1) / 2⟩ ∧
    errOf (.fp2Inv 3 1) (State.reset) = some 1 := by decide +kernel

/-- V-FP2-7, V-FP2-11, V-FP2-13. -/
theorem test_fp2Sqrt : see (.fp2Sqrt 3 1) (inE ⟨(Config.p - 1), 0⟩ ⟨0, 0⟩) E3 = some ⟨0, Config.p - 1⟩ ∧
    see (.fp2Sqrt 3 1) (inE ⟨2, 0⟩ ⟨0, 0⟩) E3 = some ⟨0, 0xca2f5e1c98166837ab7e0db6ba8acdad404902d6dde8c027741f672f58c729841dccd9fcb7bf41629ddf60824381299⟩ ∧
    errOf (.fp2Sqrt 3 1) (inE ⟨1, 1⟩ ⟨0, 0⟩) = some 2 := by decide +kernel

/-- V-FP2-14, V-FP2-15. -/
theorem test_fp2Pow : see (.fp2Pow 3 1 1) ((inF (Config.p - 1) 0).setE 1 ⟨1, 1⟩) E3 = some ⟨0, Config.p - 1⟩ ∧
    see (.fp2Pow 3 1 1) (State.reset) E3 = some ⟨1, 0⟩ := by decide +kernel

/-! ## The scalar field (V-SC-1 to V-SC-16) -/

/-- 42_scalar.md R353, R354. -/
theorem test_scZero_scOne : see (.scZero 3) (State.reset.setS 3 9) S3 = some 0 ∧
    see (.scOne 3) (State.reset) S3 = some 1 := by decide +kernel

/-- 42_scalar.md R355. -/
theorem test_scMov : see (.scMov 3 1) (inS 7 8) S3 = some 7 := by decide +kernel

/-- V-SC-16. -/
theorem test_scIszero_scEq : flagOf (.scIszero 1) (inS 0 1) = some true ∧
    flagOf (.scEq 1 2) (inS 1 1) = some true ∧
    flagOf (.scEq 1 2) (inS 0 (Config.r - 1)) = some false := by decide +kernel

/-- V-SC-1, V-SC-2. -/
theorem test_scAdd_scSub_scNeg : see (.scAdd 3 1 2) (inS (Config.r - 1) 1) S3 = some 0 ∧
    see (.scSub 3 1 2) (inS 0 1) S3 = some (Config.r - 1) ∧
    see (.scNeg 3 1) (inS 0 1) S3 = some 0 ∧
    see (.scNeg 3 1) (inS 1 1) S3 = some (Config.r - 1) := by decide +kernel

/-- V-SC-3. -/
theorem test_scMul_scSqr : see (.scMul 3 1 2) (inS (Config.r - 1) (Config.r - 1)) S3 = some 1 ∧
    see (.scSqr 3 1) (inS (2 ^ 128) 0) S3 = some 0x1824b159acc5056f998c4fefecbc4ff55884b7fa0003480200000001fffffffe := by decide +kernel

/-- V-SC-4. -/
theorem test_scInv : see (.scInv 3 1) (inS 2 0) S3 = some 0x39f6d3a994cebea4199cec0404d0ec02a9ded2017fff2dff7fffffff80000001 ∧
    errOf (.scInv 3 1) (inS 0 0) = some 1 := by decide +kernel

/-- V-SC-5, V-SC-6, V-SC-7. -/
theorem test_scSqrt : see (.scSqrt 3 1) (inS 4 0) S3 = some 2 ∧
    see (.scSqrt 3 1) (inS (Config.r - 1) 0) S3 = some 0x8d51ccce760304d0ec030002760300000001000000000000 ∧
    errOf (.scSqrt 3 1) (inS 5 0) = some 2 := by decide +kernel

/-- V-SC-15. -/
theorem test_scPow : see (.scPow 3 1 2) (inS 2 10) S3 = some 1024 ∧
    see (.scPow 3 1 2) (inS 2 (Config.r - 1)) S3 = some 1 ∧
    see (.scPow 3 1 2) (inS 0 0) S3 = some 1 := by decide +kernel

/-- V-SC-9; BUF[32] is kept. -/
theorem test_scTobytes : see (.scTobytes 1) ((inS (Config.r - 1) 0).setBuf (List.replicate 33 0xAA)) (bytesIn 33) = some (bytesOf 33 0x00000000fffffffffe5bfeff02a4bd5305d8a10908d83933487d9d2953a7ed73AA) := by decide +kernel

/-- V-SC-10, V-SC-11. -/
theorem test_scFrombytes : see (.scFrombytes 3) (inBuf 32 0x00000000fffffffffe5bfeff02a4bd5305d8a10908d83933487d9d2953a7ed73) S3 = some (Config.r - 1) ∧
    errOf (.scFrombytes 3) (inBuf 32 0x01000000fffffffffe5bfeff02a4bd5305d8a10908d83933487d9d2953a7ed73) = some 3 := by decide +kernel

/-- V-SC-12, V-SC-13. -/
theorem test_scFromwide : see (.scFromwide 3) (inBuf 64 (2 ^ 512 - 1)) S3 = some 0x748d9d99f59ff1105d314967254398f2b6cedcb87925c23c999e990f3f29c6c ∧
    see (.scFromwide 3) (inBuf 64 (2 ^ 248)) S3 = some 0x1824b159acc5056f998c4fefecbc4ff55884b7fa0003480200000001fffffffe := by decide +kernel

/-! ## Affine points (V-PA-1 to V-PA-40) -/

/-- V-PA-1, V-PA-2. -/
theorem test_paIdentity_paGen : see (.paIdentity 3) (State.reset.setA 3 G) A3 = some ⟨0, 1, true⟩ ∧
    see (.paGen 3) (State.reset) A3 = some ⟨Config.gx, Config.gy, false⟩ := by decide +kernel

/-- V-PA-10, V-PA-3. -/
theorem test_paMov_paSet : see (.paMov 3 1) (inA G Q4) A3 = some G ∧
    see (.paSet 3 1 2) (inF Q4.x Q4.y) A3 = some Q4 := by decide +kernel

/-- V-PA-4. -/
theorem test_paGetx_paGety : see (.paGetx 3 1) (inA ⟨0, 1, true⟩ G) F3 = some 0 ∧
    see (.paGety 3 1) (inA ⟨0, 1, true⟩ G) F3 = some 1 := by decide +kernel

/-- V-PA-5. -/
theorem test_paIsid : flagOf (.paIsid 1) (inA ⟨0, 1, true⟩ G) = some true ∧
    flagOf (.paIsid 1) (inA G G) = some false := by decide +kernel

/-- V-PA-11, V-PA-13. -/
theorem test_paOncurve : flagOf (.paOncurve 1) (inA G G) = some true ∧
    flagOf (.paOncurve 1) (inA ⟨0, 1, false⟩ G) = some false ∧
    flagOf (.paOncurve 1) (inA ⟨0, 1, true⟩ G) = some true := by decide +kernel

/-- V-PA-15, V-PA-16. -/
theorem test_paTorsionfree : flagOf (.paTorsionfree 1) (inA G G) = some true ∧
    flagOf (.paTorsionfree 1) (inA Q4 G) = some false ∧
    flagOf (.paTorsionfree 1) (inA ⟨0, 1, true⟩ G) = some true := by decide +kernel

/-- V-PA-9. -/
theorem test_paEq : flagOf (.paEq 1 2) (inA G ⟨Config.gx, negY, false⟩) = some false ∧
    flagOf (.paEq 1 2) (inA ⟨0, 1, true⟩ ⟨0, 1, true⟩) = some true ∧
    flagOf (.paEq 1 2) (inA ⟨0, 1, true⟩ ⟨0, 1, false⟩) = some false := by decide +kernel

/-- V-PA-6. -/
theorem test_paNeg : see (.paNeg 3 1) (inA G G) A3 = some ⟨Config.gx, negY, false⟩ ∧
    see (.paNeg 3 1) (inA ⟨0, 1, true⟩ G) A3 = some ⟨0, 1, true⟩ := by decide +kernel

/-- V-PA-7, V-PA-8. -/
theorem test_paEndo : see (.paEndo 3 1) (inA G G) A3 = some ⟨0x1333c91030ee7a4649e404c01b2e0d26a8728dd7cb4edb636ed984de104bb92674f1161d8c99bcf024e473fe0a1d7620, Config.gy, false⟩ ∧
    see (.paEndo 3 1) (inA ⟨0, 1, true⟩ G) A3 = some ⟨0, 1, true⟩ := by decide +kernel

/-- V-PA-19, and 44_projective.md R477 at Z = 0. -/
theorem test_paFromproj : see (.paFromproj 3 1) (inP dblGp Gp) A3 = some twoG ∧
    see (.paFromproj 3 1) (inP ⟨5, 7, 0⟩ Gp) A3 = some ⟨0, 1, true⟩ := by decide +kernel

/-- V-PA-18. -/
theorem test_paAdd : see (.paAdd 3 1 1) (inA G G) P3 = some dblGp := by decide +kernel

/-- V-PA-19m, V-PA-19z. -/
theorem test_paMul : see (.paMul 3 1 2) ((inA G G).setS 2 2) P3 = some twiceGp ∧
    see (.paMul 3 1 2) ((inA ⟨0, 1, true⟩ G).setS 2 5) P3 = some ⟨0, 1, 0⟩ := by decide +kernel

/-- V-PA-20, V-PA-21; BUF[48] is kept. -/
theorem test_paTocomp : see (.paTocomp 1) ((inA G G).setBuf (List.replicate 49 0xAA)) (bytesIn 49) = some (bytesOf 48 compG ++ [0xAA]) ∧
    see (.paTocomp 1) (inA ⟨0, 1, true⟩ G) (bytesIn 48) = some (0xC0 :: List.replicate 47 0) := by decide +kernel

/-- V-PA-21: -G has the sort flag. -/
theorem test_paTocomp_sort_flag : see (.paTocomp 1) (inA ⟨Config.gx, negY, false⟩ G) (fun t => bufByte t.files.BUF 0) = some 0xB7 := by decide +kernel

/-- V-PA-40. -/
theorem test_paTouncomp : see (.paTouncomp 1) (inA G G) (bytesIn 96) = some (bytesOf 96 uncompG) ∧
    see (.paTouncomp 1) (inA ⟨0, 1, true⟩ G) (bytesIn 96) = some (0x40 :: List.replicate 95 0) := by decide +kernel

/-- V-PA-22, V-PA-26, V-PA-29. -/
theorem test_paFromcomp : see (.paFromcomp 3) (inBuf 48 compG) A3 = some G ∧
    errOf (.paFromcomp 3) (inBuf 48 (compG - 2 ^ 383)) = some 3 ∧
    errOf (.paFromcomp 3) (inBuf 48 (2 ^ 383 + 4)) = some 3 := by decide +kernel

/-- V-PA-29, V-PA-30, V-PA-23. -/
theorem test_paFromcompu : see (.paFromcompu 3) (inBuf 48 (2 ^ 383 + 4)) A3 = some Q4 ∧
    see (.paFromcompu 3) (inBuf 48 (2 ^ 383 + 2 ^ 381)) A3 = some ⟨0, Config.p - 2, false⟩ ∧
    errOf (.paFromcompu 3) (inBuf 48 (7 * 2 ^ 381)) = some 3 := by decide +kernel

/-- V-PA-25, V-PA-27, V-PA-28. -/
theorem test_paFromcompu_rejects : errOf (.paFromcompu 3) (inBuf 48 (3 * 2 ^ 382 + 1)) = some 3 ∧
    errOf (.paFromcompu 3) (inBuf 48 (2 ^ 383 + Config.p)) = some 3 ∧
    errOf (.paFromcompu 3) (inBuf 48 (2 ^ 383 + 1)) = some 3 := by decide +kernel

/-- V-PA-31, V-PA-34, V-PA-39. -/
theorem test_paFromuncomp : see (.paFromuncomp 3) (inBuf 96 uncompG) A3 = some G ∧
    errOf (.paFromuncomp 3) (inBuf 96 2) = some 3 ∧
    errOf (.paFromuncomp 3) (inBuf 96 (Config.gx * 2 ^ 384 + Config.p)) = some 3 := by decide +kernel

/-- V-PA-33, V-PA-32, V-PA-36. -/
theorem test_paFromuncompu : see (.paFromuncompu 3) (inBuf 96 1) A3 = some ⟨0, 1, false⟩ ∧
    see (.paFromuncompu 3) (inBuf 96 (2 ^ 766)) A3 = some ⟨0, 1, true⟩ ∧
    errOf (.paFromuncompu 3) (inBuf 96 (2 ^ 766 + 1)) = some 3 := by decide +kernel

/-- V-PA-37, V-PA-38. -/
theorem test_paFromuncompu_flags : errOf (.paFromuncompu 3) (inBuf 96 (uncompG + 2 ^ 767)) = some 3 ∧
    errOf (.paFromuncompu 3) (inBuf 96 (uncompG + 2 ^ 765)) = some 3 := by decide +kernel

/-! ## Projective points (V-PP-1 to V-PP-26) -/

/-- V-PP-26. -/
theorem test_ppIdentity_ppGen : see (.ppIdentity 3) (State.reset.setP 3 Gp) P3 = some ⟨0, 1, 0⟩ ∧
    see (.ppGen 3) (State.reset) P3 = some Gp := by decide +kernel

/-- V-PP-26. -/
theorem test_ppMov_ppFromaff : see (.ppMov 3 1) (inP dblGp Gp) P3 = some dblGp ∧
    see (.ppFromaff 3 1) (inA G G) P3 = some Gp ∧
    see (.ppFromaff 3 1) (inA ⟨0, 1, true⟩ G) P3 = some ⟨0, 1, 0⟩ := by decide +kernel

/-- V-PP-15. -/
theorem test_ppSet_ppGet : see (.ppSet 3 1 2 0) (inF 5 7) P3 = some ⟨5, 7, 0⟩ ∧
    see (.ppGetx 3 1) (inP ⟨5, 7, 9⟩ Gp) F3 = some 5 ∧
    see (.ppGety 3 1) (inP ⟨5, 7, 9⟩ Gp) F3 = some 7 ∧
    see (.ppGetz 3 1) (inP ⟨5, 7, 9⟩ Gp) F3 = some 9 := by decide +kernel

/-- V-PP-25. -/
theorem test_ppIsid : flagOf (.ppIsid 1) (inP ⟨0, 0, 0⟩ Gp) = some true ∧
    flagOf (.ppIsid 2) (inP ⟨0, 0, 0⟩ Gp) = some false := by decide +kernel

/-- V-PP-16, V-PP-18. -/
theorem test_ppOncurve : flagOf (.ppOncurve 1) (inP Gp Gp) = some true ∧
    flagOf (.ppOncurve 1) (inP ⟨Config.gx, Config.gy, 2⟩ Gp) = some false ∧
    flagOf (.ppOncurve 1) (inP ⟨5, 7, 0⟩ Gp) = some true := by decide +kernel

/-- V-PP-19. -/
theorem test_ppEq : flagOf (.ppEq 1 2) (inP ⟨0, 0, 1⟩ ⟨0, 0, 2⟩) = some true ∧
    flagOf (.ppEq 1 2) (inP ⟨0, 1, 0⟩ ⟨0, Config.p - 1, 0⟩) = some true ∧
    flagOf (.ppEq 1 2) (inP Gp ⟨0, 1, 0⟩) = some false := by decide +kernel

/-- V-PP-9. -/
theorem test_ppNeg : see (.ppNeg 3 1) (inP Gp Gp) P3 = some ⟨Config.gx, negY, 1⟩ ∧
    see (.ppNeg 3 1) (inP ⟨0, 1, 0⟩ Gp) P3 = some ⟨0, Config.p - 1, 0⟩ := by decide +kernel

/-- V-PP-1, V-PP-2. -/
theorem test_ppDbl : see (.ppDbl 3 1) (inP Gp Gp) P3 = some dblGp ∧
    see (.ppDbl 3 1) (inP ⟨0, Config.p - 1, 0⟩ Gp) P3 = some ⟨0, 1, 0⟩ := by decide +kernel

/-- V-PP-3, V-PP-4, V-PP-24. -/
theorem test_ppAdd : see (.ppAdd 3 1 2) (inP Gp Gp) P3 = some dblGp ∧
    see (.ppAdd 3 1 2) (inP Gp ⟨0, 1, 0⟩) P3 = some oneGp ∧
    see (.ppAdd 3 1 2) (inP ⟨0, 0, 0⟩ Gp) P3 = some ⟨0, 0, 0⟩ := by decide +kernel

/-- V-PP-7. -/
theorem test_ppSub : see (.ppSub 3 1 2) (inP Gp Gp) P3 = some ⟨0, 0x14e4b429606d02bc3c604c0410e5fc01d6093a00bb3e2bc9395952af0b6a0dbd599a8782a1bea48a2aa4d8e1b1df7ca5, 0⟩ := by decide +kernel

/-- V-PP-10. -/
theorem test_ppAddm : see (.ppAddm 3 1 2) ((inP Gp Gp).setA 2 G) P3 = some dblGp ∧
    see (.ppAddm 3 1 2) ((inP ⟨0, 1, 0⟩ Gp).setA 2 G) P3 = some oneGp ∧
    see (.ppAddm 3 1 2) (inP Gp Gp) P3 = some Gp := by decide +kernel

/-- V-PP-12, V-PP-13. -/
theorem test_ppMul : see (.ppMul 3 1 2) ((inP Gp Gp).setS 2 2) P3 = some twiceGp ∧
    see (.ppMul 3 1 2) ((inP Gp Gp).setS 2 1) P3 = some oneGp ∧
    see (.ppMul 3 1 2) (inP Gp Gp) P3 = some ⟨0, 1, 0⟩ := by decide +kernel

/-- V-PP-20, V-PP-21, through ToAffine (44_projective.md R477). -/
theorem test_ppClearcof : see (.ppClearcof 3 1) (inP ⟨Q4.x, Q4.y, 1⟩ Gp) (fun t => toAffine (P3 t)) = some ⟨0x5e001d6e632cb6ff1b50c92f1112b967c139d7e8df02a8556950b931129140e470bb128278b74ab3008329b3c7bc79,
      0x2b87905c717746d726a8bda2dc8a2e70ff9726ecfc85a3710c5515ca2a86f22a1741827c51ccbf19a11a5e2e82ea8bb, false⟩ ∧
    see (.ppClearcof 3 1) (inP Gp Gp) (fun t => toAffine (P3 t)) = some ⟨0x2c8135993f651b6b8ead18769e4ecd957d4f5cdf75df4cae8d16c62bfba117270ad2dbe52e57d691f67e4aed8f6cd16,
      0x7b7d5c1705dc59d9ea2610d4aa5b200d6d3cb6bfb6569286ff23fdb5ff005f2a36dd5d990c1fc95f2e7dbec95c978ed, false⟩ := by decide +kernel

/-- V-PP-23. -/
theorem test_ppBatchnorm : see (.ppBatchnorm 0 1 3) ((inP Gp ⟨0, 1, 0⟩).setP 3 dblGp) (fun t => (t.files.A[0], t.files.A[1], t.files.A[2], t.files.A[3])) =
      some (G, ⟨0, 1, true⟩, twoG, ⟨0, 1, true⟩) := by decide +kernel

/-! ## The Montgomery datapath (V-MM-1 to V-MM-9) -/

/-- V-MM-1, V-MM-4, V-MM-5, V-MM-6. -/
theorem test_montP : montForm montP 1 = 0x15f65ec3fa80e4935c071a97a256ec6d77ce5853705257455f48985753c758baebf4000bc40c0002760900000002fffd ∧
    montMul montP 0x11ebab9dbb81e28c6cf28d7901622c038b256521ed1f9bcb57605e0db0ddbb51b93c0018d6c40005321300000006554f
      0xde0f8777c82e0857dde005a606d6b999e7c71f069ece0514f7823c40df41de886840025e97c0007ee1d00000009aaa1 =
      0x1c0df04bf85da70b0a058fe7d8f2a5bd881985be054ade337bf74e7253745acee5c004d21a40010223b00000013aa97 ∧
    montRed montP 0x1c0df04bf85da70b0a058fe7d8f2a5bd881985be054ade337bf74e7253745acee5c004d21a40010223b00000013aa97 = 6 ∧
    montMul montP (Config.p - 1) (Config.p - 1) =
      0x14fec701e8fb0ce9ed5e64273c4f538b1797ab1458a88de9343ea97914956dc87fe11274d898fafbf4d38259380b4820 := by decide +kernel

/-- V-MM-8, V-MM-9. -/
theorem test_montR : montForm montR 1 = 0x1824b159acc5056f998c4fefecbc4ff55884b7fa0003480200000001fffffffe ∧
    montMul montR 0x304962b3598a0adf33189fdfd9789feab1096ff40006900400000003fffffffc
      0x486e140d064f104ecca4efcfc634efe0098e27ee0009d80600000005fffffffa =
      0x1cee80c6e300a3556610079782c807babf5eabd90015540d0000000cfffffff3 := by decide +kernel

/-! ## The window and STATUS (section 2.6) -/

/-- V-SYS-STATUS, its first step, and that step and the third on a state with STICKY bit 8 set. -/
theorem test_status_after_failures : see (.fpInv 1 0) State.reset State.statusWord = some 0x00000110#32 ∧
    (match runWord 0x00000001#32 { State.reset with STICKY := 1 } with | .next t => some t.statusWord | _ => none) = some 0x00000940#32 ∧
    see (.fpIszero 0) { State.reset with STICKY := 9, ERR := 4 } State.statusWord = some 0x00000902#32 := by decide +kernel

/-- V-SYS-STATUS, its last two steps. -/
theorem test_control_writes : ({ State.reset with STICKY := 9, FLAG := true }.access (.write 0x010 4 2)).statusWord = 0x00000002#32 ∧
    ({ State.reset with STICKY := 9, FLAG := true }.access (.write 0x010 4 1)).statusWord = 0x00000000#32 := by decide +kernel

/-- The host-window vectors. -/
theorem test_window_reads : (State.reset.access (.read 0x000 4)).readData = 0x47314331#32 ∧
    (State.reset.access (.read 0x004 4)).readData = 1 ∧
    ({ State.reset with CMD := 5 }.access (.read 0x010 4)).readData = 0 ∧
    ({ State.reset with readData := 5 }.access (.read 0x014 4)).readData = 0 ∧
    ((inBuf 4 0x11223344).access (.read 0x100 2)).readData = 0 ∧
    ((inBuf 4 0x11223344).access (.read 0x100 4)).readData = 0x44332211#32 := by decide +kernel

/-- The host-window vectors. -/
theorem test_window_writes : bytesIn 8 (State.reset.access (.write 0x104 4 0xdeadbeef#32)) = [0, 0, 0, 0, 0xef, 0xbe, 0xad, 0xde] ∧
    ({ State.reset with BUSY := true }.access (.write 0x104 4 0xdeadbeef#32)) = { State.reset with BUSY := true, STICKY := 16 } := by decide +kernel

/-! ## Witnesses: hypotheses of the statements of Obligations.lean, met at boundary values -/

/-- What f sees after one command word, none if the machine stopped. -/
def seeWord {α : Type} (w : Word) (s : State) (f : State → α) : Option α :=
  match runWord w s with
  | .next t => some (f t)
  | _ => none

/-- `fp.mul f3, f1, f2` in flight on the files of a state. -/
def inFlight (s : State) : State := s.capture 0x09312000#32

/-- A busy state, and one that has failed before. -/
def busy : State := inFlight (inF 7 9)
def soiled : State := { inF 7 9 with STICKY := 5, ERR := 3, FLAG := true }

theorem witness_DecodeOfEncodeIsTheCommand : (Instr.fpSop 15 1 1 15).wellFormed = true ∧ (Instr.fpSop 15 15 15 1).wellFormed = true ∧
    (Instr.ppBatchnorm 0 0 8).wellFormed = true ∧ (Instr.ppBatchnorm 7 7 1).wellFormed = true := by decide

theorem witness_EncodeOfDecodeIsTheWord : decode 0x10F11F00#32 = .ok (.fpSop 15 1 1 15) ∧ ∀ i, decode 0xA0000000#32 ≠ .ok i :=
  ⟨by decide, fun i h => by rw [show decode 0xA0000000#32 = .error .unassignedOpcode by decide] at h; cases h⟩

theorem witness_OpcodeMapDecidesTheDecoder : (∃ row ∈ opcodeTable, row.op = 0x10 ∧
      0x10F11F00#32 &&& row.mask = row.pattern ∧ rowLegal row (fieldsOf 0x10F11F00#32)) ∧
    (∃ row ∈ opcodeTable, row.op = 0x92 ∧ 0x92000800#32 &&& row.mask = row.pattern ∧ rowLegal row (fieldsOf 0x92000800#32)) ∧
    decode 0x92000800#32 = .ok (.ppBatchnorm 0 0 8) := by
  refine ⟨⟨⟨"FP.SOP", 0x10, .reg .F, .reg .F, .reg .F, .count, 0x10000000#32, 0xFF0000FF#32⟩, by decide +kernel, rfl, by decide, ?_⟩,
    ⟨⟨"PP.BATCHNORM", 0x92, .reg .A, .reg .P, .unused, .count, 0x92000000#32, 0xFF00F0FF#32⟩, by decide +kernel, rfl, by decide, ?_⟩,
    by decide⟩
  · exact ⟨trivial, trivial, trivial, trivial, by decide, by decide⟩
  · exact ⟨(by decide : 0 < 8), (by decide : 0 < 8), trivial, trivial, by decide, by decide⟩

theorem witness_MalformedWordsAreIllegal : BitVec.extractLsb' 0 8 0x00000001#32 ≠ 0 ∧
    (∃ row ∈ opcodeTable, (BitVec.extractLsb' 24 8 0x01010000#32).toNat = row.op ∧ 0x01010000#32 &&& row.mask ≠ row.pattern) ∧
    (unassigned 0x11 ∧ unassigned 0x1F ∧ unassigned 0x33 ∧ unassigned 0x50 ∧ unassigned 0x7F ∧ unassigned 0x93 ∧ unassigned 0xFF) ∧
    isIllegal 0xFF000000#32 = true := by
  refine ⟨by decide, ?_, ?_, by decide⟩
  · exact ⟨⟨"FP.ZERO", 0x01, .reg .F, .unused, .unused, .unused, 0x01000000#32, 0xFF0FFFFF#32⟩, by decide +kernel, by decide, by decide⟩
  · simp [unassigned]

theorem witness_AssemblerWritesExactlyTheLegalWords : (Instr.fpSop 15 1 1 15).wellFormed = true ∧
    assemble ⟨"fp.mul".toList, [.reg .F 3, .reg .F 1, .reg .F 2]⟩ = .ok 0x09312000#32 ∧
    lineOf (.fpMul 3 1 2) = some (expandPseudo ⟨"fp.mul".toList, [.reg .F 3, .reg .F 1, .reg .F 2]⟩) ∧
    (∀ row ∈ opcodeTable, asmName row ≠ (expandPseudo ⟨"fp.foo".toList, []⟩).mnemonic) ∧ RegFile.S ≠ RegFile.F ∧ 16 ≤ 16 ∧ 8 ≤ 8 := by
  decide +kernel

theorem witness_StepRunsTheAcceptedCommand : busy.turns = [] ∧ busy.PENDING = some ⟨0x09312000#32, (inF 7 9).files⟩ ∧
    decode 0x09312000#32 = .ok (.fpMul 3 1 2) ∧ decode 0x00000001#32 = .error .reservedByte ∧
    { busy with turns := [.core] }.turns = .core :: [] ∧ State.reset.turns = [] ∧ State.reset.PENDING = none ∧
    { busy with turns := [.host (.read 0x00C 4)] }.turns = .host (.read 0x00C 4) :: [] ∧
    { busy with turns := [.powerOnReset] }.turns = .powerOnReset :: [] ∧
    decode (BitVec.ofNat 32 (0x09312000 % 2 ^ 32)) = .ok (.fpMul 3 1 2) ∧
    ((State.reset.capture 1#32).turns = [] ∧
      (State.reset.capture 1#32).PENDING = some ⟨1#32, State.reset.files⟩) ∧
    decode (BitVec.ofNat 32 (1 % 2 ^ 32)) = .error .reservedByte := by decide

theorem witness_CompletionIsAtomic : seeWord 0 soiled (·.ERR) = some 0 ∧ seeWord 1 soiled (·.ERR) = some 4 := by decide

theorem witness_FlagIsWrittenOnlyByPredicates : isPredicate (.fpMov 3 1) = false ∧ isPredicate (.ppEq 1 2) = true ∧
    errOf (.fpInv 3 0) soiled = some 1 := by decide +kernel

theorem witness_OnlyTheListedCommandsFail : (Instr.fpInv 3 0).wellFormed = true ∧ errOf (.fpInv 3 0) soiled = some 1 ∧
    errOf (.fpSqrt 3 1) (inF 2 0) = some 2 ∧ errOf (.paFromcomp 3) soiled = some 3 := by decide +kernel

theorem witness_FamiliesWriteOnlyTheirFiles : [Instr.nop, .fpZero 0, .fpSop 0 0 0 1, .fp2Zero 0, .fp2Pow 0 0 0, .scZero 0, .scFromwide 0,
    .paIdentity 0, .paFromuncompu 0, .ppIdentity 0, .ppBatchnorm 0 0 1, .fpTobytes 0, .scTobytes 0, .paTocomp 0, .paTouncomp 0].map
      (·.fields.op.toNat) =
    [0x00, 0x01, 0x10, 0x20, 0x32, 0x40, 0x4F, 0x60, 0x74, 0x80, 0x92, 0x0E, 0x4D, 0x6F, 0x70] ∧ 48 ≤ 48 ∧ 32 ≤ 32 ∧ 96 ≤ 96 := by decide

theorem witness_AcceptedCommandCompletesOnItsOperands :
    let s := { busy with turns := [.host (.write 0x008 4 0), .host (.write 0x010 4 2), .core, .host (.read 0x00C 4)] }
    s.BUSY = true ∧ s.PENDING = some ⟨0x09312000#32, (inF 7 9).files⟩ ∧ (∀ x ∈ s.turns, isReset x = false) ∧
      ∃ v, runWord 0x09312000#32 s = .next v := by
  refine ⟨rfl, rfl, by decide, _, rfl⟩

/-- Two states that agree at the operands of a command and nowhere else: fp.mul in flight against an idle core with another F3, FLAG,
ERR and STICKY, and a decoder's 48 bytes before differing ones. -/
theorem witness_EffectDependsOnOperandsAlone :
    (Memory.wf busy.files.BUF = true ∧ Memory.wf (soiled.setF 3 6).files.BUF = true ∧
      ∀ x ∈ sources (.fpMul 3 1 2), SameAt busy.operands (soiled.setF 3 6).operands x) ∧
    (Memory.wf (inBuf 96 (compG <<< 384)).files.BUF = true ∧ Memory.wf (inBuf 96 (compG <<< 384 + 1)).files.BUF = true ∧
      ∀ x ∈ sources (.paFromcomp 3), SameAt (inBuf 96 (compG <<< 384)).operands (inBuf 96 (compG <<< 384 + 1)).operands x) := by
  refine ⟨⟨rfl, rfl, ?_⟩, by decide +kernel, by decide +kernel, ?_⟩
  · simp [sources, SameAt, busy, inFlight, soiled, inF, State.capture, State.operands, State.setF, State.reset, Files.reset]
  · intro x hx
    obtain ⟨k, hk, rfl⟩ := List.mem_map.mp hx
    have h : ∀ k < 48, bufByte (inBuf 96 (compG <<< 384)).operands.BUF k = bufByte (inBuf 96 (compG <<< 384 + 1)).operands.BUF k := by
      decide +kernel
    exact h k (List.mem_range.mp hk)

theorem witness_CommandWriteIsAcceptedOrDropped : soiled.BUSY = false ∧ busy.BUSY = true := ⟨rfl, rfl⟩

theorem witness_BufReadPacksFourBytes : 0 < 24 ∧ 23 < 24 ∧ soiled.BUSY = false ∧ busy.BUSY = true := by decide

theorem witness_BufWriteStoresFourBytes : soiled.BUSY = false ∧ busy.BUSY = true ∧ 0 < 24 ∧ 23 < 24 ∧
    Memory.wf (inBuf 96 (2 ^ 767 + 1)).files.BUF = true ∧ (inBuf 96 (2 ^ 767 + 1)).BUSY = false ∧
    Memory.wf (inFlight (inBuf 96 (2 ^ 767 + 1))).files.BUF = true ∧ (inFlight (inBuf 96 (2 ^ 767 + 1))).BUSY = true := by decide +kernel

theorem witness_WindowReadsHaveNoSideEffect : reservedOffset 0x014 ∧ reservedOffset 0x0FC ∧ reservedOffset 0x160 ∧ reservedOffset 0x1FC ∧
    ¬reservedOffset 0x010 ∧ ¬reservedOffset 0x100 ∧ ¬reservedOffset 0x15C := by
  simp [reservedOffset]

theorem witness_InadmissibleAndReadOnlyAccessesAreIgnored : 2 ≠ 4 ∧ (0x102#9).toNat % 4 ≠ 0 ∧ reservedOffset 0x1FC := by
  simp [reservedOffset]

theorem witness_CtrlActsAtOnce : (1#32).getLsbD 0 = true ∧ (3#32).getLsbD 0 = true ∧ (2#32).getLsbD 0 = false ∧ (2#32).getLsbD 1 = true ∧
    (4#32).getLsbD 0 = false ∧ (4#32).getLsbD 1 = false := by decide

theorem witness_ResetGivesTheListedValues : isReset .powerOnReset = true ∧ isReset (.host (.write 0x010 4 3#32)) = true ∧
    { soiled with turns := [.powerOnReset] }.turns = [.powerOnReset] ∧
    { soiled with turns := [.host (.write 0x010 4 3#32), .core] }.turns = .host (.write 0x010 4 3#32) :: [.core] := by decide

theorem witness_StatusWordLayout : 0 < 32 ∧ 31 < 32 := by decide

/-- A state with the invariant in which a command is in flight, and its next state. -/
theorem witness_StepKeepsTheInvariant : busy.Inv ∧ ∃ t, step busy = .next t := by
  refine ⟨⟨⟨by decide +kernel, by decide +kernel, by decide +kernel, by decide +kernel, by decide +kernel, by decide +kernel, rfl⟩, rfl, ?_,
    by decide⟩, _, rfl⟩
  rintro q h
  cases h
  exact ⟨rfl, rfl⟩

theorem witness_StickyAccumulates : seeWord 1 soiled (·.ERR) = some 4 ∧ busy.BUSY = true ∧ 23 < 24 ∧
    (∀ x ∈ { soiled with turns := [.host (.write 0x008 4 1)] }.turns.head?, clearsSticky x = false) ∧
    (∃ t, step { soiled with turns := [.host (.write 0x008 4 1)] } = .next t) ∧
    (2#32).getLsbD 1 = true ∧ (1#32).getLsbD 0 = true := by
  refine ⟨by decide, rfl, by decide, by decide, ⟨_, rfl⟩, by decide, by decide⟩

/-- issue on an idle core. -/
theorem witness_IssueReturnsCodeAndFlag :
    let s := { soiled with turns := issue none 0x09312000#32 0 ++ [Turn.powerOnReset] }
    s.turns = issue none 0x09312000#32 0 ++ [Turn.powerOnReset] ∧ AfterWait s none s ∧
      ∃ v, runWord 0x09312000#32 (s.capture 0x09312000#32) = .next v :=
  ⟨rfl, ⟨rfl, rfl⟩, _, rfl⟩

/-- issue behind a command in flight, with two polls in each wait. -/
theorem witness_IssueReturnsCodeAndFlag_busy :
    let s := { busy with turns := issue (some 2) 0x00000001#32 2 ++ [] }
    s.turns = issue (some 2) 0x00000001#32 2 ++ [] ∧
      ∃ u, AfterWait s (some 2) u ∧ ∃ v, runWord 0x00000001#32 (u.capture 0x00000001#32) = .next v :=
  ⟨rfl, _, ⟨rfl, _, rfl, rfl⟩, _, rfl⟩

/-- All of BUF loaded, its last word loaded, and all of it read. -/
theorem witness_IssueReturnsCodeAndFlag_buf : soiled.BUSY = false ∧ Memory.wf soiled.files.BUF = true ∧
    0 + (List.replicate 24 (5#32)).length ≤ 24 ∧ 23 + [5#32].length ≤ 24 ∧ 0 + 24 ≤ 24 ∧ 23 < 24 ∧
    { soiled with turns := loadBuf 23 [5#32] ++ [Turn.core] }.turns = loadBuf 23 [5#32] ++ [Turn.core] ∧
    { soiled with turns := readBuf 0 24 ++ [Turn.core] }.turns = readBuf 0 24 ++ [Turn.core] := by decide

theorem witness_NopOnlyClearsErr : decode 0 = .ok .nop := by decide

theorem witness_FpSumOfProductsIsExact : ((1 : FReg).val + (15 : Count).val ≤ 16) ∧ ((15 : FReg).val + (1 : Count).val ≤ 16) ∧
    (1 : Count).val = 1 ∧ ¬(1 ≤ (0 : Count).val) ∧ ¬((2 : FReg).val + (15 : Count).val ≤ 16) := by decide

theorem witness_FpInverseIsTheUniqueInverse : (inF 0 0).opF 1 < Config.p ∧ (inF 0 0).opF 1 = 0 ∧
    (inF (Config.p - 1) 0).opF 1 < Config.p ∧ (inF (Config.p - 1) 0).opF 1 ≠ 0 := by decide

theorem witness_FpSquareRootFindsEverySquare : (inF 4 2).opF 1 < Config.p ∧ (∃ y, y * y % Config.p = (inF 4 2).opF 1) ∧
    (inF 4 2).opF 2 < Config.p ∧ ¬∃ y, y * y % Config.p = (inF 4 2).opF 2 :=
  ⟨by decide, ⟨2, by decide⟩, by decide, two_not_square⟩

theorem witness_FpByteCodec : (inF (Config.p - 1) 0).opF 1 < Config.p ∧ Memory.wf (inF (Config.p - 1) 0).files.BUF = true ∧
    beInteger (inBuf 48 (Config.p - 1)).operands.BUF 0 48 < Config.p ∧ Config.p ≤ beInteger (inBuf 48 Config.p).operands.BUF 0 48 ∧
    ∃ t, exec (.fpTobytes 1) (inF (Config.p - 1) 0) = .next t := by
  refine ⟨by decide, by decide, by decide +kernel, by decide +kernel, _, rfl⟩

theorem witness_Fp2InverseIsTheInverse : (State.reset.opE 1).c0 < Config.p ∧ (State.reset.opE 1).c1 < Config.p ∧ State.reset.opE 1 = ⟨0, 0⟩ ∧
    ((inE ⟨0, Config.p - 1⟩ ⟨0, 0⟩).opE 1).c0 < Config.p ∧ ((inE ⟨0, Config.p - 1⟩ ⟨0, 0⟩).opE 1).c1 < Config.p ∧
    (inE ⟨0, Config.p - 1⟩ ⟨0, 0⟩).opE 1 ≠ ⟨0, 0⟩ := by decide

/-- A square, and `(1, 1)`, whose norm 2 is no square (95_test_vectors.md V-FP2-13). -/
theorem witness_Fp2SquareRootFindsEverySquare :
    ((inE ⟨Config.p - 1, 0⟩ ⟨1, 1⟩).opE 1).c0 < Config.p ∧ ((inE ⟨Config.p - 1, 0⟩ ⟨1, 1⟩).opE 1).c1 < Config.p ∧
    (∃ y : Fp2, fp2Mul y y = (inE ⟨Config.p - 1, 0⟩ ⟨1, 1⟩).opE 1) ∧
    ((inE ⟨Config.p - 1, 0⟩ ⟨1, 1⟩).opE 2).c0 < Config.p ∧ ((inE ⟨Config.p - 1, 0⟩ ⟨1, 1⟩).opE 2).c1 < Config.p ∧
    ¬∃ y : Fp2, fp2Mul y y = (inE ⟨Config.p - 1, 0⟩ ⟨1, 1⟩).opE 2 := by
  refine ⟨by decide, by decide, ⟨⟨0, 1⟩, by decide⟩, by decide, by decide, ?_⟩
  rintro ⟨⟨c, d⟩, h⟩
  have h : fp2Mul ⟨c, d⟩ ⟨c, d⟩ = ⟨1, 1⟩ := h
  have h0 : ((fp2Mul ⟨c, d⟩ ⟨c, d⟩).c0 : ZMod Config.p) = 1 := by rw [h]; simp
  have h1 : ((fp2Mul ⟨c, d⟩ ⟨c, d⟩).c1 : ZMod Config.p) = 1 := by rw [h]; simp
  simp only [fp2Mul, cast_fpSumOfProducts, cast_fpNeg, List.map_cons, List.map_nil, List.sum_cons, List.sum_nil] at h0 h1
  refine two_not_square ⟨c * c + d * d, ?_⟩
  have h2 : (((c * c + d * d) * (c * c + d * d) : Nat) : ZMod Config.p) = (2 : Nat) := by
    push_cast
    linear_combination (c * c - d * d + 1 : ZMod Config.p) * h0 + (c * d + d * c + 1 : ZMod Config.p) * h1
  rw [ZMod.natCast_eq_natCast_iff'] at h2
  exact h2

theorem witness_Fp2PowerIsTheIteratedProduct : (inF (2 ^ 384 - 1) 0).opF 1 < 2 ^ 384 := by decide +kernel

theorem witness_ScRingCommandsComputeModR : (inS 0 (2 ^ 256 - 1)).opS 2 < 2 ^ 256 := by decide

theorem witness_ScInverseIsTheUniqueInverse : State.reset.opS 1 < Config.r ∧ State.reset.opS 1 = 0 ∧
    (inS (Config.r - 1) 0).opS 1 < Config.r ∧ (inS (Config.r - 1) 0).opS 1 ≠ 0 := by decide

/-- 5 is no square modulo r (95_test_vectors.md V-SC-7). -/
theorem witness_ScSquareRootIsTheSmallerRoot : (inS 4 5).opS 1 < Config.r ∧ (∃ y, y * y % Config.r = (inS 4 5).opS 1) ∧
    (inS 4 5).opS 2 < Config.r ∧ ¬∃ y, y * y % Config.r = (inS 4 5).opS 2 :=
  ⟨by decide, ⟨2, by decide⟩, by decide,
    not_square_of_pow (a := 5) (n := 256) r_prime (by decide) (by decide +kernel) (by decide +kernel) (by decide +kernel)⟩

theorem witness_ScByteCodec : (inS (Config.r - 1) 0).opS 1 < Config.r ∧ Memory.wf (inS (Config.r - 1) 0).files.BUF = true ∧
    leInteger (inBuf 32 0xFF).operands.BUF 0 32 ≥ Config.r ∧ leInteger State.reset.operands.BUF 0 32 < Config.r := by decide +kernel

theorem witness_PaPredicatesAndMaps : (0 < Config.p ∧ 1 < Config.p ∧ (true = true → Affine.identity = ⟨0, 1, true⟩)) ∧
    G.x < Config.p ∧ G.y < Config.p ∧ (G.inf = true → G = ⟨0, 1, true⟩) := by decide

theorem witness_PointConversions : ((inP ⟨5, 7, 0⟩ dblGp).opP 1).X < Config.p ∧ ((inP ⟨5, 7, 0⟩ dblGp).opP 1).Y < Config.p ∧
    ((inP ⟨5, 7, 0⟩ dblGp).opP 1).Z < Config.p ∧ ((inP ⟨5, 7, 0⟩ dblGp).opP 1).Z = 0 ∧
    ((inP ⟨5, 7, 0⟩ dblGp).opP 2).X < Config.p ∧ ((inP ⟨5, 7, 0⟩ dblGp).opP 2).Y < Config.p ∧
    ((inP ⟨5, 7, 0⟩ dblGp).opP 2).Z < Config.p ∧ ((inP ⟨5, 7, 0⟩ dblGp).opP 2).Z ≠ 0 := by decide

theorem witness_PointEncodersWriteTheFormats : ((inA G Affine.identity).opA 1).x < Config.p ∧ ((inA G Affine.identity).opA 1).y < Config.p ∧
    ((inA G Affine.identity).opA 2).x < Config.p ∧ ((inA G Affine.identity).opA 2).y < Config.p ∧
    Memory.wf (inA G Affine.identity).files.BUF = true := by decide

/-- The inputs by class, compressed: the identity, the point with x = 0, one without the compression flag, the three
flags together with x = 0 (90_conflicts.md C3), and x = 1, where
`x³ + 4 = 5` is no square (95_test_vectors.md V-PA-28). -/
theorem witness_UncheckedPointDecoders_compressed :
    (beInteger (inBuf 48 (3 * 2 ^ 382)).operands.BUF 0 48 = 3 * 2 ^ 382 ∧ (3 * 2 ^ 382).testBit 383 = true ∧
      (3 * 2 ^ 382).testBit 382 = true ∧ (3 * 2 ^ 382).testBit 381 = false ∧ 3 * 2 ^ 382 % 2 ^ 381 = 0) ∧
    (beInteger (inBuf 48 (2 ^ 383)).operands.BUF 0 48 = 2 ^ 383 ∧ (2 ^ 383).testBit 383 = true ∧ (2 ^ 383).testBit 382 = false ∧
      2 ^ 383 % 2 ^ 381 < Config.p ∧ ∃ y, y * y % Config.p = ((2 ^ 383 % 2 ^ 381) ^ 3 + 4) % Config.p) ∧
    (beInteger (inBuf 48 0).operands.BUF 0 48 = 0 ∧ (0).testBit 383 = false) ∧
    (beInteger (inBuf 48 (7 * 2 ^ 381)).operands.BUF 0 48 = 7 * 2 ^ 381 ∧ (7 * 2 ^ 381).testBit 383 = true ∧
      (7 * 2 ^ 381).testBit 382 = true ∧ (7 * 2 ^ 381).testBit 381 = true ∧ 7 * 2 ^ 381 % 2 ^ 381 = 0) ∧
    (beInteger (inBuf 48 (2 ^ 383 + 1)).operands.BUF 0 48 = 2 ^ 383 + 1 ∧ (2 ^ 383 + 1) % 2 ^ 381 = 1 ∧
      ¬∃ y, y * y % Config.p = (1 ^ 3 + 4) % Config.p) := by
  exact ⟨by decide +kernel, ⟨by decide +kernel, by decide +kernel, by decide +kernel, by decide +kernel, 2, by decide +kernel⟩,
    by decide +kernel, by decide +kernel, by decide +kernel, by decide +kernel,
    not_square_of_pow (a := 5) (n := 384) p_prime (by decide) (by decide +kernel) (by decide +kernel) (by decide +kernel)⟩

/-- The inputs by class, uncompressed: a point, the identity, and one with the compression flag. -/
theorem witness_UncheckedPointDecoders_uncompressed :
    (beInteger (inBuf 96 uncompG).operands.BUF 0 48 = Config.gx ∧ beInteger (inBuf 96 uncompG).operands.BUF 48 48 = Config.gy ∧
      Config.gx.testBit 383 = false ∧ Config.gx.testBit 382 = false ∧ Config.gx.testBit 381 = false ∧
      Config.gx % 2 ^ 381 < Config.p ∧ Config.gy < Config.p) ∧
    (beInteger (inBuf 96 (2 ^ 766)).operands.BUF 0 48 = 2 ^ 382 ∧ beInteger (inBuf 96 (2 ^ 766)).operands.BUF 48 48 = 0 ∧
      (2 ^ 382).testBit 383 = false ∧ (2 ^ 382).testBit 382 = true ∧ (2 ^ 382).testBit 381 = false ∧ 2 ^ 382 % 2 ^ 381 = 0) ∧
    (beInteger (inBuf 96 (2 ^ 767)).operands.BUF 0 48 = 2 ^ 383 ∧ (2 ^ 383).testBit 383 = true) := by decide +kernel

/-- For CheckedDecodersValidate: a valid point, a point outside the subgroup, a point off the curve, and a refused input. -/
theorem witness_CheckedDecodersValidate :
    (decodeCompressedUnchecked ((inBuf 48 compG).opBuf 48) = some G ∧ decodeUncompressedUnchecked ((inBuf 96 uncompG).opBuf 96) = some G ∧
      affOnCurve G = true ∧ torsionFree G = true) ∧
    (decodeCompressedUnchecked ((inBuf 48 (2 ^ 383 + 4)).opBuf 48) = some Q4 ∧ torsionFree Q4 = false) ∧
    (decodeUncompressedUnchecked ((inBuf 96 1).opBuf 96) = some ⟨0, 1, false⟩ ∧ affOnCurve ⟨0, 1, false⟩ = false) ∧
    decodeCompressedUnchecked (State.reset.opBuf 48) = none ∧ decodeUncompressedUnchecked ((inBuf 96 (2 ^ 767)).opBuf 96) = none := by
  decide +kernel

theorem witness_CodecRoundTrips : (G.x < Config.p ∧ G.y < Config.p ∧ (G.inf = true → G = ⟨0, 1, true⟩)) ∧ affOnCurve G = true ∧
    torsionFree G = true ∧ affOnCurve Affine.identity = true ∧ torsionFree Affine.identity = true ∧
    affOnCurve ⟨Config.p - 1, Config.p - 1, false⟩ = false := by decide +kernel

theorem witness_ScalarMultipliersDoubleAndAdd : 0 < 2 ^ 254 ∧ 2 ^ 254 - 1 < 2 ^ 254 ∧ 2 ^ 255 - 1 < 2 ^ 255 := by decide

theorem witness_BatchNormalizationIsPointwise : (1 ≤ (8 : Count).val ∧ (0 : AReg).val + (8 : Count).val ≤ 8 ∧ (0 : PReg).val + (8 : Count).val ≤ 8) ∧
    (1 ≤ (1 : Count).val ∧ (7 : AReg).val + (1 : Count).val ≤ 8 ∧ (7 : PReg).val + (1 : Count).val ≤ 8) ∧
    ¬(1 ≤ (9 : Count).val ∧ (0 : AReg).val + (9 : Count).val ≤ 8 ∧ (0 : PReg).val + (9 : Count).val ≤ 8) ∧
    ∀ P ∈ [Gp, Proj.identity, dblGp], P.X < Config.p ∧ P.Y < Config.p ∧ P.Z < Config.p := by decide

theorem nonsingular_0_2 : curve.Nonsingular 0 2 := by
  have := fact_p
  have h4 : ((4 : Nat) : ZMod Config.p) ≠ 0 := by
    rw [Ne, ZMod.natCast_eq_zero_iff]
    exact Nat.not_dvd_of_pos_of_lt (by decide) (by decide)
  rw [WeierstrassCurve.Affine.nonsingular_iff', WeierstrassCurve.Affine.equation_iff]
  refine ⟨by simp [curve]; norm_num, Or.inr ?_⟩
  have e : (2 * 2 + curve.a₁ * 0 + curve.a₃ : ZMod Config.p) = ((4 : Nat) : ZMod Config.p) := by simp [curve]; norm_num
  rw [e]
  exact h4

/-- The identity and the point `(0, 2)`, scaled by 3 in the projective form and as itself in the affine form. -/
theorem witness_PointFunctionsAreTheGroupLaw : Nat.Prime Config.p ∧ Represents ⟨0, Config.p - 1, 0⟩ .zero ∧
    Represents ⟨0, 6, 3⟩ (.some 0 2 nonsingular_0_2) ∧ Represents (promote ⟨0, 2, false⟩) (.some 0 2 nonsingular_0_2) ∧
    Represents (promote Affine.identity) .zero ∧ 2 ^ 255 - 1 < 2 ^ 255 := by
  refine ⟨p_prime, ⟨rfl, by decide, by decide, rfl⟩, ⟨by decide, by decide, by decide, by decide, ?_, ?_⟩,
    ⟨by decide, by decide, by decide, by decide, ?_, ?_⟩, ⟨rfl, by decide, by decide, rfl⟩, by decide⟩
  · simp
  · norm_num
  · simp [promote]
  · simp [promote]

theorem witness_MontgomeryReducerDividesByTheRadix : montP ∈ [montP, montR] ∧ montR ∈ [montP, montR] ∧
    montP.modulus * montP.radix - 1 < montP.modulus * montP.radix ∧ montR.modulus * montR.radix - 1 < montR.modulus * montR.radix := by
  refine ⟨by simp, by simp, by decide +kernel, by decide +kernel⟩

theorem witness_MontgomeryDatapathComputesTheCommands : montP.modulus - 1 < montP.modulus ∧ montR.modulus - 1 < montR.modulus ∧
    Config.p - 1 < Config.p ∧ (List.replicate 15 (Config.p - 1, Config.p - 1)).length ≤ 15 ∧
    (∀ q ∈ List.replicate 15 (Config.p - 1, Config.p - 1), q.1 < Config.p ∧ q.2 < Config.p) ∧ 2 ^ 256 - 1 < 2 ^ 256 := by decide +kernel

theorem witness_ByteCodecHelpersRoundTrip : 7 < 8 ∧ (List.replicate 8 (0xFF : Byte)).length = 8 ∧ 5 < 6 := by decide

end Sys2Proof.Tests
end

section
/-! The fixed constants of 00_scope.md section 4 and of 40_fp.md R232, R235 and 42_scalar.md R351, R352: closed facts about literals, which
the kernel evaluates. Each lemma is one fact that a rule states. -/

namespace Sys2Proof.Machine

/-! ## The moduli, the BLS parameter and β (00_scope.md R8 to R10, R13) -/

/-- R8: a 381-bit modulus with `p ≡ 3 mod 4`, which is why `fpRoot` may use the exponent `(p + 1) / 4`. -/
theorem p_bits_and_residue : 2 ^ 380 ≤ Config.p ∧ Config.p < 2 ^ 381 ∧ Config.p % 4 = 3 := by decide +kernel

/-- R9: 255 bits, so that a scalar product over the bits 254 down to 0 reaches every scalar below r. -/
theorem r_bits : 2 ^ 254 ≤ Config.r ∧ Config.r < 2 ^ 255 := by decide +kernel

/-- R10: the family's polynomial for the group order, which is even in x and so does not see its sign. -/
theorem r_eq_poly_xAbs : Config.r = Config.xAbs ^ 4 - Config.xAbs ^ 2 + 1 := by decide +kernel

/-- R10: `p = (x - 1)^2 r / 3 + x` for the negative `x = -|x|`, with no subtraction. -/
theorem three_mul_p_add_xAbs : 3 * (Config.p + Config.xAbs) = (Config.xAbs + 1) ^ 2 * Config.r := by decide +kernel

/-- R13: β is a cube root of 1 modulo p other than 1. -/
theorem beta_nontrivial_cube_root : Config.beta ^ 3 % Config.p = 1 ∧ 1 < Config.beta ∧ Config.beta < Config.p := by
  decide +kernel

/-! ## The generator and its endomorphism (00_scope.md R12, R13) -/

theorem affOnCurve_generator : affOnCurve ⟨Config.gx, Config.gy, false⟩ = true := by decide +kernel

theorem torsionFree_generator : torsionFree ⟨Config.gx, Config.gy, false⟩ = true := by decide +kernel

/-- R9, R12: r times the generator is the identity. -/
theorem scalarMul_generator_r : (scalarMul ⟨Config.gx, Config.gy, 1⟩ Config.r).Z = 0 := by decide +kernel

/-- R13: what singles β out of the two nontrivial cube roots, that `(β·x, y) = [-x^2 mod r]P` on the generator. -/
theorem endo_generator_eq_scalarMul : projEq (promote (endo ⟨Config.gx, Config.gy, false⟩))
    (scalarMul ⟨Config.gx, Config.gy, 1⟩ (Config.r - Config.xAbs ^ 2 % Config.r)) = true := by decide +kernel

/-! ## The Montgomery constants (40_fp.md R232, R235; 42_scalar.md R351, R352) -/

/-- R232: `INV_p = -p^-1 mod 2^64`. -/
theorem invP_mul_p : Config.invP * Config.p % 2 ^ 64 = 2 ^ 64 - 1 := by decide +kernel

/-- R351: `INV_r = -r^-1 mod 2^64`. -/
theorem invR_mul_r : Config.invR * Config.r % 2 ^ 64 = 2 ^ 64 - 1 := by decide +kernel

/-- R235: the first three powers of the radix `2^384` modulo p. -/
theorem ofLimbs_radixP_powers : ofLimbs Config.radixP = 2 ^ 384 % Config.p ∧ ofLimbs Config.radixP2 = 2 ^ 768 % Config.p ∧
    ofLimbs Config.radixP3 = 2 ^ 1152 % Config.p := by decide +kernel

/-- R352: the same for the radix `2^256`. -/
theorem ofLimbs_radixR_powers : ofLimbs Config.radixR = 2 ^ 256 % Config.r ∧ ofLimbs Config.radixR2 = 2 ^ 512 % Config.r ∧
    ofLimbs Config.radixR3 = 2 ^ 768 % Config.r := by decide +kernel

/-- Settles O57: rule by rule, from the lemmas above. -/
theorem fixedConstantsHaveTheirProperties : Obligations.FixedConstantsHaveTheirProperties := by
  obtain ⟨hp_low, hp_high, hp_mod⟩ := p_bits_and_residue
  obtain ⟨hr_low, hr_high⟩ := r_bits
  obtain ⟨hpLimbs, hpLimbs2, hpLimbs3⟩ := ofLimbs_radixP_powers
  exact ⟨⟨hp_low, hp_high, hp_mod, hr_low, hr_high, r_eq_poly_xAbs, three_mul_p_add_xAbs⟩,
    beta_nontrivial_cube_root,
    ⟨affOnCurve_generator, torsionFree_generator, scalarMul_generator_r, endo_generator_eq_scalarMul⟩,
    invP_mul_p, invR_mul_r, hpLimbs, hpLimbs2, hpLimbs3, ofLimbs_radixR_powers⟩

end Sys2Proof.Machine
end

section
/-! The STATUS word bit by bit (10_state.md R62, R68), what stands at the offsets of the register map (20_memory.md R121), and what one
host access can do, said once (20_memory.md R122 to R131). -/

namespace Sys2Proof.Machine

/-! ## STATUS -/

/-- A bit of STATUS, by the field it falls in. -/
theorem State.getLsbD_statusWord (s : State) (k : Nat) : s.statusWord.getLsbD k =
    if k < 1 then s.BUSY else if k < 2 then s.FLAG else if k < 4 then false else if k < 8 then s.ERR.getLsbD (k - 4)
    else if k < 13 then s.STICKY.getLsbD (k - 8) else false := by
  change BitVec.getLsbD (w := 19 + 5 + 4 + 2 + 1 + 1)
    (0#19 ++ s.STICKY ++ s.ERR ++ 0#2 ++ BitVec.ofBool s.FLAG ++ BitVec.ofBool s.BUSY) k = _
  simp only [BitVec.getLsbD_append, BitVec.getLsbD_zero, BitVec.getLsbD_ofBool]
  grind

/-- A bit of STICKY in STATUS. -/
theorem State.getLsbD_statusWord_sticky (s : State) {k : Nat} (hk : k < 5) :
    s.statusWord.getLsbD (8 + k) = s.STICKY.getLsbD k := by
  rw [State.getLsbD_statusWord, if_neg (by omega), if_neg (by omega), if_neg (by omega), if_neg (by omega), if_pos (by omega),
    Nat.add_sub_cancel_left]

/-! ## Offsets -/

theorem admitted_iff {addr : Offset} {bytes : Nat} : admitted addr bytes = true ↔ bytes = 4 ∧ addr.toNat % 4 = 0 := by
  simp [admitted]

/-- CTRL stands at its offset alone. -/
theorem eq_ctrlOffset_of_placeAt {addr : Offset} (h : placeAt addr = .ctrl) : addr = 0x010 := by
  refine BitVec.eq_of_toNat_eq ?_
  simp only [placeAt] at h
  split_ifs at h
  assumption

/-- Nothing stands at a reserved offset. -/
theorem placeAt_of_reservedOffset {addr : Offset} (h : Spec.reservedOffset addr) : placeAt addr = .reserved := by
  obtain ⟨-, h⟩ := h
  unfold placeAt
  simp only
  rw [if_neg (by omega), if_neg (by omega), if_neg (by omega), if_neg (by omega), if_neg (by omega), if_neg (by omega)]

theorem toNat_bufOffset {k : Nat} (hk : k < 24) : (bufOffset k).toNat = 0x100 + 4 * k := by
  simp only [bufOffset, BitVec.toNat_ofNat]
  omega

theorem placeAt_bufOffset {k : Nat} (hk : k < 24) : placeAt (bufOffset k) = .bufWord k := by
  unfold placeAt
  simp only [toNat_bufOffset hk]
  rw [if_neg (by omega), if_neg (by omega), if_neg (by omega), if_neg (by omega), if_neg (by omega), if_pos (by omega)]
  congr 1
  omega

/-! ## Accesses -/

/-- An admitted read answers from its place. -/
theorem access_read_of_placeAt (s : State) {addr : Offset} {x : Place} (ha : addr.toNat % 4 = 0) (hx : placeAt addr = x) :
    s.access (.read addr 4) = s.readPlace x := by
  subst hx
  exact if_pos (admitted_iff.2 ⟨rfl, ha⟩)

/-- An admitted write acts on its place. -/
theorem access_write_of_placeAt (s : State) {addr : Offset} {x : Place} (v : Word) (ha : addr.toNat % 4 = 0)
    (hx : placeAt addr = x) : s.access (.write addr 4 v) = s.writePlace v x := by
  subst hx
  exact if_pos (admitted_iff.2 ⟨rfl, ha⟩)

theorem access_write_cmd (s : State) (w : Word) : s.access (.write 0x008 4 w) = s.writeCMD w :=
  access_write_of_placeAt s w rfl rfl

theorem access_write_ctrl (s : State) (v : Word) : s.access (.write 0x010 4 v) = s.writeCTRL v :=
  access_write_of_placeAt s v rfl rfl

theorem access_write_bufWord (s : State) {k : Nat} (hk : k < 24) (v : Word) :
    s.access (.write (bufOffset k) 4 v) = s.writeBufWord k v :=
  access_write_of_placeAt s v (by rw [toNat_bufOffset hk]; omega) (placeAt_bufOffset hk)

theorem State.writeCMD_busy (s : State) (h : s.BUSY = true) (w : Word) : s.writeCMD w = s.overrun := if_pos h

theorem State.writeCMD_idle (s : State) (h : s.BUSY = false) (w : Word) : s.writeCMD w = s.capture w :=
  if_neg (by rw [h]; decide)

theorem State.writeBufWord_busy (s : State) (h : s.BUSY = true) (k : Nat) (v : Word) : s.writeBufWord k v = s.overrun := if_pos h

theorem State.writeCTRL_reset (s : State) {v : Word} (h : v.getLsbD 0 = true) : s.writeCTRL v = s.resetCore := if_pos h

theorem State.writeCTRL_clear (s : State) {v : Word} (h0 : v.getLsbD 0 = false) (h1 : v.getLsbD 1 = true) :
    s.writeCTRL v = s.clearSticky := by
  rw [State.writeCTRL, if_neg (by rw [h0]; decide), if_pos h1]

theorem State.writeCTRL_none (s : State) {v : Word} (h0 : v.getLsbD 0 = false) (h1 : v.getLsbD 1 = false) : s.writeCTRL v = s := by
  rw [State.writeCTRL, if_neg (by rw [h0]; decide), if_neg (by rw [h1]; decide)]

/-- What one host access can do to the core, with the condition under which it does it. -/
inductive AccessOutcome (s : State) (a : HostAccess) : State → Prop where
  | answered (v : Word) (n : Nat) : AccessOutcome s a { s with readData := v, draws := n }
  | ignored : AccessOutcome s a s
  | dropped (busy : s.BUSY = true) : AccessOutcome s a s.overrun
  | accepted (idle : s.BUSY = false) (w : Word) : AccessOutcome s a (s.capture w)
  | stored (idle : s.BUSY = false) (k : Nat) (bs : List Byte) :
      AccessOutcome s a { s with files := { s.files with BUF := bufWrite s.files.BUF k bs } }
  | cleared (turn : Spec.clearsSticky (.host a) = true) : AccessOutcome s a s.clearSticky
  | reset (turn : Spec.isReset (.host a) = true) : AccessOutcome s a s.resetCore

/-- A read of any place changes what the host last read, and no more than that and the count of free values (20_memory.md R142). -/
theorem exists_readPlace (s : State) (x : Place) : ∃ (v : Word) (n : Nat), s.readPlace x = { s with readData := v, draws := n } := by
  cases x with
  | bufWord k =>
    simp only [State.readPlace]
    split
    · exact ⟨_, _, rfl⟩
    · exact ⟨_, _, rfl⟩
  | _ => exact ⟨_, _, rfl⟩

theorem exists_access_read (s : State) (addr : Offset) (bytes : Nat) :
    ∃ (v : Word) (n : Nat), s.access (.read addr bytes) = { s with readData := v, draws := n } := by
  simp only [State.access]
  split
  · exact exists_readPlace s _
  · exact ⟨_, _, rfl⟩

theorem accessOutcome_writeCMD (s : State) (a : HostAccess) (w : Word) : AccessOutcome s a (s.writeCMD w) := by
  cases hb : s.BUSY with
  | true =>
    rw [s.writeCMD_busy hb]
    exact .dropped hb
  | false =>
    rw [s.writeCMD_idle hb]
    exact .accepted hb w

theorem accessOutcome_writeBufWord (s : State) (a : HostAccess) (k : Nat) (v : Word) :
    AccessOutcome s a (s.writeBufWord k v) := by
  unfold State.writeBufWord
  split
  · exact .dropped ‹_›
  · exact .stored (by simpa using ‹¬s.BUSY = true›) _ _

theorem accessOutcome_writeCTRL (s : State) (v : Word) : AccessOutcome s (.write 0x010 4 v) (s.writeCTRL v) := by
  cases h0 : v.getLsbD 0 with
  | true =>
    rw [s.writeCTRL_reset h0]
    exact .reset h0
  | false =>
    cases h1 : v.getLsbD 1 with
    | true =>
      rw [s.writeCTRL_clear h0 h1]
      exact .cleared (Bool.or_eq_true_iff.2 (.inr h1))
    | false =>
      rw [s.writeCTRL_none h0 h1]
      exact .ignored

/-- Every access has one of the outcomes. -/
theorem accessOutcome (s : State) (a : HostAccess) : AccessOutcome s a (s.access a) := by
  cases a with
  | read addr bytes =>
    obtain ⟨v, n, h⟩ := exists_access_read s addr bytes
    rw [h]
    exact .answered v n
  | write addr bytes v =>
    by_cases ha : admitted addr bytes = true
    · obtain ⟨rfl, hmod⟩ := admitted_iff.1 ha
      rw [access_write_of_placeAt s v hmod rfl]
      cases hx : placeAt addr with
      | cmd => exact accessOutcome_writeCMD s _ v
      | ctrl =>
        obtain rfl := eq_ctrlOffset_of_placeAt hx
        exact accessOutcome_writeCTRL s v
      | bufWord k => exact accessOutcome_writeBufWord s _ k v
      | _ => exact .ignored
    · simp only [State.access, if_neg ha]
      exact .ignored

/-! ## What the map says of each place -/

/-- Settles O22, from the bits of STATUS and the places of STATUS and CTRL. -/
theorem statusWordLayout : Obligations.StatusWordLayout := by
  refine ⟨fun s k _ => ?_, fun s v => access_write_of_placeAt s v rfl rfl, rfl, fun s => ?_⟩
  · rw [State.getLsbD_statusWord]
    grind
  · rw [access_write_ctrl, s.writeCTRL_clear rfl rfl, State.clearSticky_STICKY]

/-- Settles O15, from what a write of CMD does on a busy and on an idle core. -/
theorem commandWriteIsAcceptedOrDropped : Obligations.CommandWriteIsAcceptedOrDropped := by
  intro s w
  rw [access_write_cmd]
  exact ⟨fun h => s.writeCMD_idle h w, fun h => s.writeCMD_busy h w⟩

/-- Settles O18, place by place. -/
theorem windowReadsHaveNoSideEffect : Obligations.WindowReadsHaveNoSideEffect := by
  intro s
  exact ⟨access_read_of_placeAt s rfl rfl, access_read_of_placeAt s rfl rfl, access_read_of_placeAt s rfl rfl,
    access_read_of_placeAt s rfl rfl, access_read_of_placeAt s rfl rfl,
    fun addr h => access_read_of_placeAt s h.1 (placeAt_of_reservedOffset h), exists_access_read s⟩

/-- Settles O20, by the two bits of the written word. -/
theorem ctrlActsAtOnce : Obligations.CtrlActsAtOnce := by
  intro s v
  rw [access_write_ctrl]
  exact ⟨s.writeCTRL_reset, s.writeCTRL_clear, s.writeCTRL_none⟩

end Sys2Proof.Machine
end

section
/-! What a command does, as data: the one place a completion writes to and the value it writes there, computed from the operands alone
(60_exceptions.md R571, R573, R576). `exec_eq` ties this to `exec`; the frame of a command, its atomicity, and what it keeps are then
read off the ten forms of `Effect` and not off the 92 commands. -/

namespace Sys2Proof.Machine

/-- What a completion writes. -/
inductive Effect where
  | keep
  | writeF (d : FReg) (v : Nat)
  | writeE (d : EReg) (v : Fp2)
  | writeS (d : SReg) (v : Nat)
  | writeA (d : AReg) (v : Affine)
  | writeP (d : PReg) (v : Proj)
  | writeBuf (bs : List Byte)
  | writeRangeA (d : Nat) (xs : List Affine)
  | writeFlag (v : Bool)
  | fail (k : ErrorKind)

namespace Effect

/-- The files after an effect on the files `fs`. -/
def files (fs : Files) : Effect → Files
  | writeF d v => { fs with F := fs.F.set d v }
  | writeE d v => { fs with E := fs.E.set d v }
  | writeS d v => { fs with S := fs.S.set d v }
  | writeA d v => { fs with A := fs.A.set d v }
  | writeP d v => { fs with P := fs.P.set d v }
  | writeBuf bs => { fs with BUF := bufWrite fs.BUF 0 bs }
  | writeRangeA d xs => { fs with A := putRange fs.A d xs }
  | keep | writeFlag _ | fail _ => fs

/-- FLAG after an effect, from FLAG before it. -/
def flag (b : Bool) : Effect → Bool
  | writeFlag v => v
  | _ => b

/-- The error an effect reports. -/
def code : Effect → Option ErrorKind
  | fail k => some k
  | _ => none

/-- The state in which a command with this effect has completed. -/
def apply (e : Effect) (s : State) : State := { s with files := e.files s.files, FLAG := e.flag s.FLAG }.complete e.code

section
variable (e : Effect) (s : State)

@[simp] theorem apply_files : (e.apply s).files = e.files s.files := rfl
@[simp] theorem apply_CMD : (e.apply s).CMD = s.CMD := rfl
@[simp] theorem apply_BUSY : (e.apply s).BUSY = false := rfl
@[simp] theorem apply_FLAG : (e.apply s).FLAG = e.flag s.FLAG := rfl
@[simp] theorem apply_ERR : (e.apply s).ERR = errAfter e.code := rfl
@[simp] theorem apply_STICKY : (e.apply s).STICKY = stickyAfter s.STICKY e.code := rfl
@[simp] theorem apply_PENDING : (e.apply s).PENDING = none := rfl
@[simp] theorem apply_turns : (e.apply s).turns = s.turns := rfl
@[simp] theorem apply_readData : (e.apply s).readData = s.readData := rfl
@[simp] theorem apply_draws : (e.apply s).draws = s.draws := rfl

end

end Effect

/-- The result, or the error k where there is none. -/
def Effect.orFail {α : Type} (k : ErrorKind) (write : α → Effect) : Option α → Effect
  | some v => write v
  | none => .fail k

/-- The effect of a command on the operands `fs` (the rules stand at the commands' meanings, Machine/*Commands.lean). -/
def effect (fs : Files) : Instr → Effect
  | .nop => .keep
  | .fpZero d => .writeF d 0
  | .fpOne d => .writeF d 1
  | .fpMov d a => .writeF d fs.F[a]
  | .fpIszero a => .writeFlag (decide (fs.F[a] = 0))
  | .fpEq a b => .writeFlag (decide (fs.F[a] = fs.F[b]))
  | .fpAdd d a b => .writeF d (fpAdd fs.F[a] fs.F[b])
  | .fpSub d a b => .writeF d (fpSub fs.F[a] fs.F[b])
  | .fpNeg d a => .writeF d (fpNeg fs.F[a])
  | .fpMul d a b => .writeF d (fpMul fs.F[a] fs.F[b])
  | .fpSqr d a => .writeF d (fpSqr fs.F[a])
  | .fpInv d a => if fs.F[a] = 0 then .fail .notInvertible else .writeF d (fpInv fs.F[a])
  | .fpSqrt d a => .orFail .notASquare (.writeF d) (fpSqrt? fs.F[a])
  | .fpLexl a => .writeFlag (fpLexLargest fs.F[a])
  | .fpTobytes a => .writeBuf (beBytes 48 fs.F[a])
  | .fpFrombytes d =>
    if Config.p ≤ beInt (bufRead fs.BUF 0 48) then .fail .malformedEncoding else .writeF d (beInt (bufRead fs.BUF 0 48))
  | .fpSop d a b n =>
    if sopCountOk a b n then
      .writeF d (fpSumOfProducts (((fs.F.toList.drop a).take n).zip ((fs.F.toList.drop b).take n)))
    else .fail .illegalCommand
  | .fp2Zero d => .writeE d fp2Zero
  | .fp2One d => .writeE d fp2One
  | .fp2Mov d a => .writeE d fs.E[a]
  | .fp2Pack d a b => .writeE d ⟨fs.F[a], fs.F[b]⟩
  | .fp2C0 d a => .writeF d fs.E[a].c0
  | .fp2C1 d a => .writeF d fs.E[a].c1
  | .fp2Iszero a => .writeFlag (decide (fs.E[a].c0 = 0) && decide (fs.E[a].c1 = 0))
  | .fp2Eq a b => .writeFlag (decide (fs.E[a].c0 = fs.E[b].c0) && decide (fs.E[a].c1 = fs.E[b].c1))
  | .fp2Add d a b => .writeE d (fp2Add fs.E[a] fs.E[b])
  | .fp2Sub d a b => .writeE d (fp2Sub fs.E[a] fs.E[b])
  | .fp2Neg d a => .writeE d (fp2Neg fs.E[a])
  | .fp2Mul d a b => .writeE d (fp2Mul fs.E[a] fs.E[b])
  | .fp2Sqr d a => .writeE d (fp2Sqr fs.E[a])
  | .fp2Conj d a => .writeE d (fp2Conj fs.E[a])
  | .fp2Frob d a => .writeE d (fp2Frob fs.E[a])
  | .fp2Mulnr d a => .writeE d (fp2MulNr fs.E[a])
  | .fp2Inv d a => .orFail .notInvertible (.writeE d) (fp2Inv? fs.E[a])
  | .fp2Sqrt d a => .orFail .notASquare (.writeE d) (fp2Sqrt? fs.E[a])
  | .fp2Pow d a b => .writeE d (fp2Pow fs.E[a] fs.F[b])
  | .scZero d => .writeS d 0
  | .scOne d => .writeS d 1
  | .scMov d a => .writeS d fs.S[a]
  | .scIszero a => .writeFlag (decide (fs.S[a] = 0))
  | .scEq a b => .writeFlag (decide (fs.S[a] = fs.S[b]))
  | .scAdd d a b => .writeS d (scAdd fs.S[a] fs.S[b])
  | .scSub d a b => .writeS d (scSub fs.S[a] fs.S[b])
  | .scNeg d a => .writeS d (scNeg fs.S[a])
  | .scMul d a b => .writeS d (scMul fs.S[a] fs.S[b])
  | .scSqr d a => .writeS d (scSqr fs.S[a])
  | .scInv d a => if fs.S[a] = 0 then .fail .notInvertible else .writeS d (scInv fs.S[a])
  | .scSqrt d a => .orFail .notASquare (.writeS d) (scSqrt? fs.S[a])
  | .scPow d a b => .writeS d (scPow fs.S[a] fs.S[b])
  | .scTobytes a => .writeBuf (leBytes 32 fs.S[a])
  | .scFrombytes d =>
    if Config.r ≤ leInt (bufRead fs.BUF 0 32) then .fail .malformedEncoding else .writeS d (leInt (bufRead fs.BUF 0 32))
  | .scFromwide d => .writeS d (leInt (bufRead fs.BUF 0 64) % Config.r)
  | .paIdentity d => .writeA d Affine.identity
  | .paGen d => .writeA d ⟨Config.gx, Config.gy, false⟩
  | .paMov d a => .writeA d fs.A[a]
  | .paSet d a b => .writeA d ⟨fs.F[a], fs.F[b], false⟩
  | .paGetx d a => .writeF d fs.A[a].x
  | .paGety d a => .writeF d fs.A[a].y
  | .paIsid a => .writeFlag fs.A[a].inf
  | .paOncurve a => .writeFlag (affOnCurve fs.A[a])
  | .paTorsionfree a => .writeFlag (torsionFree fs.A[a])
  | .paEq a b => .writeFlag (affEq fs.A[a] fs.A[b])
  | .paNeg d a => .writeA d (affNeg fs.A[a])
  | .paEndo d a => .writeA d (endo fs.A[a])
  | .paFromproj d a => .writeA d (toAffine fs.P[a])
  | .paAdd d a b => .writeP d (projAddMixed (promote fs.A[a]) fs.A[b])
  | .paMul d a b => .writeP d (scalarMul (promote fs.A[a]) fs.S[b])
  | .paTocomp a => .writeBuf (encodeCompressed fs.A[a])
  | .paTouncomp a => .writeBuf (encodeUncompressed fs.A[a])
  | .paFromcomp d => .orFail .malformedEncoding (.writeA d) (validated (decodeCompressedUnchecked (bufRead fs.BUF 0 48)))
  | .paFromcompu d => .orFail .malformedEncoding (.writeA d) (decodeCompressedUnchecked (bufRead fs.BUF 0 48))
  | .paFromuncomp d => .orFail .malformedEncoding (.writeA d) (validated (decodeUncompressedUnchecked (bufRead fs.BUF 0 96)))
  | .paFromuncompu d => .orFail .malformedEncoding (.writeA d) (decodeUncompressedUnchecked (bufRead fs.BUF 0 96))
  | .ppIdentity d => .writeP d Proj.identity
  | .ppGen d => .writeP d ⟨Config.gx, Config.gy, 1⟩
  | .ppMov d a => .writeP d fs.P[a]
  | .ppSet d a b c => .writeP d ⟨fs.F[a], fs.F[b], fs.F[c]⟩
  | .ppGetx d a => .writeF d fs.P[a].X
  | .ppGety d a => .writeF d fs.P[a].Y
  | .ppGetz d a => .writeF d fs.P[a].Z
  | .ppFromaff d a => .writeP d (promote fs.A[a])
  | .ppIsid a => .writeFlag (decide (fs.P[a].Z = 0))
  | .ppOncurve a => .writeFlag (projOnCurve fs.P[a])
  | .ppEq a b => .writeFlag (projEq fs.P[a] fs.P[b])
  | .ppNeg d a => .writeP d (projNeg fs.P[a])
  | .ppDbl d a => .writeP d (projDouble fs.P[a])
  | .ppAdd d a b => .writeP d (projAdd fs.P[a] fs.P[b])
  | .ppSub d a b => .writeP d (projAdd fs.P[a] (projNeg fs.P[b]))
  | .ppAddm d a b => .writeP d (projAddMixed fs.P[a] fs.A[b])
  | .ppMul d a b => .writeP d (scalarMul fs.P[a] fs.S[b])
  | .ppClearcof d a => .writeP d (clearCofactor fs.P[a])
  | .ppBatchnorm d a n =>
    if batchCountOk d a n then .writeRangeA d (((fs.P.toList.drop a).take n).map toAffine) else .fail .illegalCommand

/-- A property of the effects holds of a result-or-error when it holds of the error and of every result. -/
theorem Effect.orFail_of {α : Type} {k : ErrorKind} {write : α → Effect} {q : Option α} {P : Effect → Prop} (hfail : P (.fail k))
    (hwrite : ∀ v, q = some v → P (write v)) : P (orFail k write q) := by
  cases q with
  | none => exact hfail
  | some v => exact hwrite v rfl

/-- Completing with one of two effects by a condition. -/
theorem next_apply_ite (c : Prop) [Decidable c] (e e' : Effect) (s : State) :
    Host.Outcome.next ((if c then e else e').apply s) = if c then (.next (e.apply s) : Result) else .next (e'.apply s) := by
  split <;> rfl

/-- A decoder stores the decoded point or reports MALFORMED_ENCODING. -/
theorem storeDecoded_eq (d : AReg) (q : Option Affine) (s : State) :
    storeDecoded d q s = .next ((Effect.orFail .malformedEncoding (.writeA d) q).apply s) := by
  cases q <;> rfl

theorem done_setFLAG_eq (v : Bool) (s : State) : done (s.setFLAG v) = .next ((Effect.writeFlag v).apply s) := rfl

/-- Every command completes with its effect, on every state. -/
theorem exec_eq (i : Instr) (s : State) : exec i s = .next ((effect s.operands i).apply s) := by
  cases i with
  | fpInv | fpFrombytes | fpSop | scInv | scFrombytes | ppBatchnorm =>
    simp only [effect, next_apply_ite]
    rfl
  | fpSqrt d a => simp only [exec, execFpSqrt, effect, State.opF]; cases fpSqrt? s.operands.F[a] <;> rfl
  | fp2Inv d a => simp only [exec, execFp2Inv, effect, State.opE]; cases fp2Inv? s.operands.E[a] <;> rfl
  | fp2Sqrt d a => simp only [exec, execFp2Sqrt, effect, State.opE]; cases fp2Sqrt? s.operands.E[a] <;> rfl
  | scSqrt d a => simp only [exec, execScSqrt, effect, State.opS]; cases scSqrt? s.operands.S[a] <;> rfl
  | scFromwide d => simp only [exec, execScFromwide, effect, State.opBuf]; rfl
  | paTorsionfree a => exact done_setFLAG_eq (torsionFree (s.opA a)) s
  | paFromcomp d => exact storeDecoded_eq d (validated (decodeCompressedUnchecked (s.opBuf 48))) s
  | paFromcompu d => exact storeDecoded_eq d (decodeCompressedUnchecked (s.opBuf 48)) s
  | paFromuncomp d => exact storeDecoded_eq d (validated (decodeUncompressedUnchecked (s.opBuf 96))) s
  | paFromuncompu d => exact storeDecoded_eq d (decodeUncompressedUnchecked (s.opBuf 96)) s
  | _ => rfl

/-- The effect of an accepted word: that of its command, or ILLEGAL_COMMAND (60_exceptions.md R571). -/
def wordEffect (w : Word) (fs : Files) : Effect :=
  match decode w with
  | .ok i => effect fs i
  | .error _ => .fail .illegalCommand

/-- Every accepted word completes with its effect. -/
theorem runWord_eq (w : Word) (s : State) : runWord w s = .next ((wordEffect w s.operands).apply s) := by
  unfold runWord wordEffect
  cases decode w with
  | ok i => exact exec_eq i s
  | error _ => rfl

end Sys2Proof.Machine
end

section
/-! Where a command writes: the predicates of 10_state.md R66 write FLAG and no other command does, and every other write goes to a
file of the family's row in R75. -/

namespace Sys2Proof.Machine

/-! ## FLAG (10_state.md R66) -/

/-- A predicate's effect is a write of FLAG. -/
theorem effect_of_isPredicate {i : Instr} (h : Spec.isPredicate i = true) (fs : Files) : ∃ v, effect fs i = .writeFlag v := by
  cases i with
  | fpIszero | fpEq | fpLexl | fp2Iszero | fp2Eq | scIszero | scEq | paIsid | paOncurve | paTorsionfree | paEq | ppIsid | ppOncurve
    | ppEq => exact ⟨_, rfl⟩
  | _ => cases h

/-- No other command writes FLAG. -/
theorem flag_effect_of_not_isPredicate {i : Instr} (h : Spec.isPredicate i = false) (fs : Files) (b : Bool) :
    (effect fs i).flag b = b := by
  cases i with
  | fpIszero | fpEq | fpLexl | fp2Iszero | fp2Eq | scIszero | scEq | paIsid | paOncurve | paTorsionfree | paEq | ppIsid | ppOncurve
    | ppEq => cases h
  | fpInv | fpFrombytes | fpSop | scInv | scFrombytes | ppBatchnorm => simp only [effect]; split <;> rfl
  | fpSqrt | fp2Inv | fp2Sqrt | scSqrt | paFromcomp | paFromcompu | paFromuncomp | paFromuncompu =>
    simp only [effect]
    exact Effect.orFail_of (P := fun e => e.flag b = b) rfl fun _ _ => rfl
  | _ => rfl

/-- A failing effect leaves the files and FLAG (60_exceptions.md R573). -/
theorem Effect.files_flag_of_code {e : Effect} (h : e.code ≠ none) (fs : Files) (b : Bool) : e.files fs = fs ∧ e.flag b = b := by
  cases e with
  | fail k => exact ⟨rfl, rfl⟩
  | _ => exact absurd rfl h

/-- Settles O9: a predicate's effect is a write of FLAG; every other effect, and every failing one, leaves FLAG. -/
theorem flagIsWrittenOnlyByPredicates : Obligations.FlagIsWrittenOnlyByPredicates := by
  intro i s
  refine ⟨_, exec_eq i s, fun h => ?_, fun h => ?_, ?_⟩
  · rcases h with h | h
    · exact flag_effect_of_not_isPredicate h _ _
    · refine (Effect.files_flag_of_code (fun hc => h ?_) s.files _).2
      simp [hc, errAfter]
  · obtain ⟨v, hv⟩ := effect_of_isPredicate h s.operands
    simp [hv, Effect.code, Effect.files, errAfter]
  · exact State.getLsbD_statusWord _ 1

/-! ## The files, by the opcode ranges of the families (10_state.md R60, R75) -/

/-- Whether a command of opcode `op` may have the effect: its family's row in R75, and for BUF the lengths of R60. -/
def Effect.allowedAt (op : Nat) : Effect → Bool
  | keep | fail _ => true
  | writeFlag _ => decide (op ≠ 0)
  | writeF _ _ => decide (0 < op ∧ op < 0x40 ∨ 0x60 ≤ op)
  | writeE _ _ => decide (0x20 ≤ op ∧ op < 0x40)
  | writeS _ _ => decide (0x40 ≤ op ∧ op < 0x60)
  | writeA _ _ | writeRangeA _ _ | writeP _ _ => decide (0x60 ≤ op)
  | writeBuf bs =>
    decide ((op = 0x0E ∨ op = 0x6F) ∧ bs.length = 48 ∨ op = 0x4D ∧ bs.length = 32 ∨ op = 0x70 ∧ bs.length = 96)

/-- Every command's effect is one that its opcode allows. -/
theorem allowedAt_effect (fs : Files) (i : Instr) : (effect fs i).allowedAt i.fields.op.toNat = true := by
  cases i with
  | fpTobytes | scTobytes | paTocomp | paTouncomp => simp [effect, Effect.allowedAt, Instr.fields]
  | fpInv | fpFrombytes | fpSop | scInv | scFrombytes | ppBatchnorm => simp only [effect]; split <;> rfl
  | fpSqrt | fp2Inv | fp2Sqrt | scSqrt | paFromcomp | paFromcompu | paFromuncomp | paFromuncompu =>
    simp only [effect]
    exact Effect.orFail_of (P := fun e => e.allowedAt _ = true) rfl fun _ _ => rfl
  | _ => rfl

namespace Effect

variable {e : Effect} {op : Nat}

theorem files_F_eq (h : e.allowedAt op = true) (hop : 0x40 ≤ op ∧ op < 0x60) (fs : Files) : (e.files fs).F = fs.F := by
  cases e with
  | writeF d v => simp only [allowedAt, decide_eq_true_eq] at h; omega
  | _ => rfl

theorem files_E_eq (h : e.allowedAt op = true) (hop : op < 0x20 ∨ 0x40 ≤ op) (fs : Files) : (e.files fs).E = fs.E := by
  cases e with
  | writeE d v => simp only [allowedAt, decide_eq_true_eq] at h; omega
  | _ => rfl

theorem files_S_eq (h : e.allowedAt op = true) (hop : op < 0x40 ∨ 0x60 ≤ op) (fs : Files) : (e.files fs).S = fs.S := by
  cases e with
  | writeS d v => simp only [allowedAt, decide_eq_true_eq] at h; omega
  | _ => rfl

theorem files_A_eq (h : e.allowedAt op = true) (hop : op < 0x60) (fs : Files) : (e.files fs).A = fs.A := by
  cases e with
  | writeA d v | writeRangeA d xs => simp only [allowedAt, decide_eq_true_eq] at h; omega
  | _ => rfl

theorem files_P_eq (h : e.allowedAt op = true) (hop : op < 0x60) (fs : Files) : (e.files fs).P = fs.P := by
  cases e with
  | writeP d v => simp only [allowedAt, decide_eq_true_eq] at h; omega
  | _ => rfl

theorem files_BUF_eq (h : e.allowedAt op = true) (hop : op ≠ 0x0E ∧ op ≠ 0x4D ∧ op ≠ 0x6F ∧ op ≠ 0x70) (fs : Files) :
    (e.files fs).BUF = fs.BUF := by
  cases e with
  | writeBuf bs => simp only [allowedAt, decide_eq_true_eq] at h; omega
  | _ => rfl

/-- The bytes of BUF past the length n that the opcode allows. -/
theorem bufByte_files_of_le (h : e.allowedAt op = true) {n : Nat}
    (hop : (op = 0x0E ∨ op = 0x6F) ∧ n = 48 ∨ op = 0x4D ∧ n = 32 ∨ op = 0x70 ∧ n = 96) (fs : Files) {k : Nat} (hk : n ≤ k) :
    bufByte (e.files fs).BUF k = bufByte fs.BUF k := by
  cases e with
  | writeBuf bs =>
    simp only [allowedAt, decide_eq_true_eq] at h
    exact bufByte_bufWrite_above (by omega)
  | _ => rfl

theorem files_flag_of_op_zero (h : e.allowedAt 0 = true) (fs : Files) (b : Bool) : e.files fs = fs ∧ e.flag b = b := by
  cases e with
  | keep | fail k => exact ⟨rfl, rfl⟩
  | _ => simp [allowedAt] at h

end Effect

/-- Settles O11, clause by clause from what the opcode allows. -/
theorem familiesWriteOnlyTheirFiles : Obligations.FamiliesWriteOnlyTheirFiles := by
  intro i s
  have h := allowedAt_effect s.operands i
  refine ⟨_, exec_eq i s, ?_⟩
  generalize i.fields.op.toNat = op at h ⊢
  refine ⟨?_, fun hop => ?_, fun hop => ?_, fun hop => ?_, fun hop => ?_, fun hop => ?_, fun hop => ?_, fun hop k hk => ?_,
    fun hop k hk => ?_, fun hop k hk => ?_⟩
  · rintro rfl
    exact Effect.files_flag_of_op_zero h _ _
  · exact ⟨Effect.files_E_eq h (by omega) _, Effect.files_S_eq h (by omega) _, Effect.files_A_eq h (by omega) _,
      Effect.files_P_eq h (by omega) _⟩
  · exact ⟨Effect.files_S_eq h (by omega) _, Effect.files_A_eq h (by omega) _, Effect.files_P_eq h (by omega) _⟩
  · exact ⟨Effect.files_F_eq h (by omega) _, Effect.files_E_eq h (by omega) _, Effect.files_A_eq h (by omega) _,
      Effect.files_P_eq h (by omega) _⟩
  · exact ⟨Effect.files_E_eq h (by omega) _, Effect.files_S_eq h (by omega) _⟩
  · exact ⟨Effect.files_E_eq h (by omega) _, Effect.files_S_eq h (by omega) _⟩
  · exact Effect.files_BUF_eq h hop _
  · exact Effect.bufByte_files_of_le h (by omega) _ hk
  · exact Effect.bufByte_files_of_le h (by omega) _ hk
  · exact Effect.bufByte_files_of_le h (by omega) _ hk

end Sys2Proof.Machine
end

section
/-! The canonical values of 10_state.md R55 and R59: every function that computes a register's new value gives a canonical one, so a
command's effect on canonical operands keeps the files canonical. -/

namespace Sys2Proof

/-- Both components are in `[0, p)` (10_state.md R53). -/
structure Fp2.Canonical (v : Fp2) : Prop where
  c0 : v.c0 < Config.p
  c1 : v.c1 < Config.p

/-- Both coordinates are in `[0, p)`, and the point at infinity is the canonical identity (10_state.md R55). -/
structure Affine.Canonical (v : Affine) : Prop where
  x : v.x < Config.p
  y : v.y < Config.p
  identity : v.inf = true → v = Affine.identity

/-- The three coordinates are in `[0, p)` (10_state.md R57). -/
structure Proj.Canonical (v : Proj) : Prop where
  X : v.X < Config.p
  Y : v.Y < Config.p
  Z : v.Z < Config.p

end Sys2Proof

namespace Sys2Proof.Machine

theorem one_lt_p : 1 < Config.p := p_prime.one_lt
theorem one_lt_r : 1 < Config.r := r_prime.one_lt

/-! ## Fp and the scalar field -/

theorem fpSqrt?_lt {a v : Nat} (h : fpSqrt? a = some v) : v < Config.p := by
  unfold fpSqrt? at h
  split at h
  · cases h; exact fpRoot_lt a
  · cases h

/-- The smaller of a root and its negative is canonical whatever the root. -/
theorem min_sub_lt {m : Nat} (hm : 0 < m) (v : Nat) : min v (m - v) < m := by omega

theorem scSqrt?_lt {a v : Nat} (h : scSqrt? a = some v) : v < Config.r := by
  unfold scSqrt? at h
  split at h
  · exact Option.some.inj h ▸ r_pos
  · split at h
    · exact Option.some.inj h ▸ min_sub_lt r_pos (scRoot a)
    · cases h

/-! ## Fp2 -/

theorem canonical_fp2Zero : fp2Zero.Canonical := ⟨p_pos, p_pos⟩
theorem canonical_fp2One : fp2One.Canonical := ⟨one_lt_p, p_pos⟩
theorem canonical_fp2Mul (a b : Fp2) : (fp2Mul a b).Canonical := ⟨fpSumOfProducts_lt _, fpSumOfProducts_lt _⟩

theorem canonical_fp2Pow (a : Fp2) (e : Nat) : (fp2Pow a e).Canonical :=
  powLoop_of_mul canonical_fp2Mul a e 384 fp2One canonical_fp2One

theorem canonical_fp2Inv? {a v : Fp2} (h : fp2Inv? a = some v) : v.Canonical := by
  unfold fp2Inv? at h
  split at h
  · cases h
  · cases h; exact ⟨fpMul_lt _ _, fpNeg_lt _⟩

theorem canonical_fp2Root (a : Fp2) : (fp2Root a).Canonical := by
  unfold fp2Root
  simp only
  split
  · exact ⟨fpNeg_lt _, (canonical_fp2Mul _ _).c0⟩
  · exact canonical_fp2Mul _ _

theorem canonical_fp2Sqrt? {a v : Fp2} (h : fp2Sqrt? a = some v) : v.Canonical := by
  unfold fp2Sqrt? at h
  split at h
  · cases h; exact canonical_fp2Root a
  · cases h

/-! ## Affine points -/

theorem canonical_identityA : Affine.identity.Canonical := ⟨p_pos, one_lt_p, fun _ => rfl⟩

/-- A finite point needs only its coordinates in range. -/
theorem canonical_finite {x y : Nat} (hx : x < Config.p) (hy : y < Config.p) : Affine.Canonical ⟨x, y, false⟩ := ⟨hx, hy, nofun⟩

theorem generator_lt : Config.gx < Config.p ∧ Config.gy < Config.p := by decide +kernel

theorem canonical_affNeg {A : Affine} (h : A.Canonical) : (affNeg A).Canonical := by
  cases hi : A.inf with
  | true => rw [h.identity hi]; exact canonical_identityA
  | false => simpa [affNeg, hi] using canonical_finite h.x (fpNeg_lt A.y)

theorem endo_identity : endo Affine.identity = Affine.identity := by decide +kernel

theorem canonical_endo {A : Affine} (h : A.Canonical) : (endo A).Canonical := by
  cases hi : A.inf with
  | true => rw [h.identity hi, endo_identity]; exact canonical_identityA
  | false => simpa [endo, hi] using canonical_finite (fpMul_lt A.x Config.beta) h.y

theorem canonical_toAffine (P : Proj) : (toAffine P).Canonical := by
  unfold toAffine
  split
  · exact canonical_identityA
  · exact canonical_finite (fpMul_lt _ _) (fpMul_lt _ _)

theorem chooseRoot_lt {y : Nat} (sort : Bool) (hy : y < Config.p) : chooseRoot sort y < Config.p := by
  unfold chooseRoot
  split
  · exact fpNeg_lt y
  · exact hy

theorem canonical_decodeCompressedUnchecked {bs : List Byte} {A : Affine} (h : decodeCompressedUnchecked bs = some A) :
    A.Canonical := by
  simp only [decodeCompressedUnchecked] at h
  split at h
  · cases h
  · split at h
    · cases h; exact canonical_identityA
    · split at h
      · cases h
      · split at h
        · cases h; exact canonical_finite (Nat.lt_of_not_le ‹_›) (chooseRoot_lt _ (fpSqrt?_lt ‹_›))
        · cases h

theorem canonical_decodeUncompressedUnchecked {bs : List Byte} {A : Affine} (h : decodeUncompressedUnchecked bs = some A) :
    A.Canonical := by
  simp only [decodeUncompressedUnchecked] at h
  split_ifs at h with hlt
  · cases h; exact canonical_identityA
  · cases h; exact canonical_finite (by omega) (by omega)

/-- The checks of the checked decoders only reject. -/
theorem eq_some_of_validated {q : Option Affine} {A : Affine} (h : validated q = some A) : q = some A := by
  unfold validated at h
  split at h
  · split at h
    · exact h
    · cases h
  · cases h

/-! ## Projective points -/

theorem canonical_identityP : Proj.identity.Canonical := ⟨p_pos, one_lt_p, p_pos⟩

theorem canonical_promote {A : Affine} (h : A.Canonical) : (promote A).Canonical := by
  refine ⟨h.x, h.y, ?_⟩
  unfold promote
  simp only
  split
  · exact p_pos
  · exact one_lt_p

theorem canonical_projNeg {P : Proj} (h : P.Canonical) : (projNeg P).Canonical := ⟨h.X, fpNeg_lt _, h.Z⟩

theorem canonical_projDouble (P : Proj) : (projDouble P).Canonical := by
  unfold projDouble
  simp only
  split
  · exact canonical_identityP
  · exact ⟨fpAdd_lt _ _, fpAdd_lt _ _, fpMul_lt _ _⟩

theorem canonical_projAdd (P Q : Proj) : (projAdd P Q).Canonical := ⟨fpSub_lt _ _, fpAdd_lt _ _, fpAdd_lt _ _⟩

theorem canonical_projAddMixed {P : Proj} (h : P.Canonical) (A : Affine) : (projAddMixed P A).Canonical := by
  unfold projAddMixed
  simp only
  split
  · exact h
  · exact ⟨fpSub_lt _ _, fpAdd_lt _ _, fpAdd_lt _ _⟩

theorem canonical_scalarMulLoop (P : Proj) (s n : Nat) {acc : Proj} (h : acc.Canonical) : (scalarMulLoop P s n acc).Canonical := by
  induction n generalizing acc with
  | zero => exact h
  | succ n ih =>
    rw [scalarMulLoop]
    split
    · exact ih (canonical_projAdd _ _)
    · exact ih (canonical_projDouble _)

theorem canonical_scalarMul (P : Proj) (s : Nat) : (scalarMul P s).Canonical := canonical_scalarMulLoop P s 255 canonical_identityP

theorem canonical_clearCofactor (P : Proj) : (clearCofactor P).Canonical := canonical_projAdd _ _

/-! ## The files -/

/-- A property of every register of a file is kept by a write of a value that has it. -/
theorem forall_getElem_set {α : Type} {n : Nat} {q : α → Prop} {v : Vector α n} (h : ∀ i : Fin n, q v[i]) (d : Fin n) {x : α}
    (hx : q x) : ∀ i : Fin n, q (v.set d x)[i] := by
  intro i
  simp only [Fin.getElem_fin, Vector.getElem_set]
  split
  · exact hx
  · exact h i

/-- The same for a write of a range. -/
theorem forall_getElem_putRange {q : Affine → Prop} {v : Vector Affine 8} (h : ∀ i : AReg, q v[i]) (d : Nat) {xs : List Affine}
    (hxs : ∀ x ∈ xs, q x) : ∀ i : AReg, q (putRange v d xs)[i] := by
  induction xs generalizing v d with
  | nil => exact h
  | cons x xs ih =>
    refine ih (fun i => ?_) (d + 1) fun y hy => hxs y (List.mem_cons_of_mem _ hy)
    simp only [Fin.getElem_fin, Vector.getElem_setIfInBounds]
    split
    · exact hxs x List.mem_cons_self
    · exact h i

namespace Files.Canonical

variable {fs : Files} (h : fs.Canonical)
include h

theorem regE (i : EReg) : fs.E[i].Canonical := ⟨(h.E i).1, (h.E i).2⟩
theorem regA (i : AReg) : fs.A[i].Canonical := ⟨(h.A i).1, (h.A i).2, h.identity i⟩
theorem regP (i : PReg) : fs.P[i].Canonical := ⟨(h.P i).1, (h.P i).2.1, (h.P i).2.2⟩

theorem withF {F : Vector Nat 16} (hF : ∀ i : FReg, F[i] < Config.p) : Files.Canonical { fs with F := F } := { h with F := hF }

theorem withE {E : Vector Fp2 8} (hE : ∀ i : EReg, E[i].Canonical) : Files.Canonical { fs with E := E } :=
  { h with E := fun i => ⟨(hE i).c0, (hE i).c1⟩ }

theorem withS {S : Vector Nat 8} (hS : ∀ i : SReg, S[i] < Config.r) : Files.Canonical { fs with S := S } := { h with S := hS }

theorem withA {A : Vector Affine 8} (hA : ∀ i : AReg, A[i].Canonical) : Files.Canonical { fs with A := A } :=
  { h with A := fun i => ⟨(hA i).x, (hA i).y⟩, identity := fun i => (hA i).identity }

theorem withP {P : Vector Proj 8} (hP : ∀ i : PReg, P[i].Canonical) : Files.Canonical { fs with P := P } :=
  { h with P := fun i => ⟨(hP i).X, (hP i).Y, (hP i).Z⟩ }

theorem withBUF {m : Memory} (hm : Memory.wf m = true) : Files.Canonical { fs with BUF := m } := { h with BUF := hm }

end Files.Canonical

/-- The value an effect writes is canonical. -/
inductive Effect.Canonical : Effect → Prop where
  | writeF {d : FReg} {v : Nat} (h : v < Config.p) : Canonical (.writeF d v)
  | writeE {d : EReg} {v : Fp2} (h : v.Canonical) : Canonical (.writeE d v)
  | writeS {d : SReg} {v : Nat} (h : v < Config.r) : Canonical (.writeS d v)
  | writeA {d : AReg} {v : Affine} (h : v.Canonical) : Canonical (.writeA d v)
  | writeP {d : PReg} {v : Proj} (h : v.Canonical) : Canonical (.writeP d v)
  | writeRangeA {d : Nat} {xs : List Affine} (h : ∀ x ∈ xs, x.Canonical) : Canonical (.writeRangeA d xs)
  | keep : Canonical .keep
  | writeBuf {bs : List Byte} : Canonical (.writeBuf bs)
  | writeFlag {v : Bool} : Canonical (.writeFlag v)
  | fail {k : ErrorKind} : Canonical (.fail k)

/-- A canonical effect keeps the files canonical. -/
theorem Effect.canonical_files {e : Effect} (he : e.Canonical) {fs : Files} (h : fs.Canonical) : (e.files fs).Canonical := by
  cases he with
  | writeF he => exact h.withF (forall_getElem_set (q := (· < Config.p)) h.F _ he)
  | writeE he => exact h.withE (forall_getElem_set h.regE _ he)
  | writeS he => exact h.withS (forall_getElem_set (q := (· < Config.r)) h.S _ he)
  | writeA he => exact h.withA (forall_getElem_set h.regA _ he)
  | writeP he => exact h.withP (forall_getElem_set h.regP _ he)
  | writeRangeA he => exact h.withA (forall_getElem_putRange h.regA _ he)
  | writeBuf => exact h.withBUF (bufWrite_wf h.BUF)
  | keep | writeFlag | fail => exact h

theorem Effect.canonical_ite {c : Prop} {_ : Decidable c} {e e' : Effect} (h : c → e.Canonical) (h' : ¬c → e'.Canonical) :
    (if c then e else e').Canonical := by
  split
  · exact h ‹_›
  · exact h' ‹_›

theorem Effect.canonical_orFail {α : Type} {k : ErrorKind} {write : α → Effect} {q : Option α}
    (h : ∀ v, q = some v → (write v).Canonical) : (orFail k write q).Canonical :=
  orFail_of (P := Effect.Canonical) .fail h

/-- Every command's effect on canonical operands is canonical (10_state.md R59). -/
theorem canonical_effect {fs : Files} (h : fs.Canonical) (i : Instr) : (effect fs i).Canonical := by
  cases i with
  | nop | fpIszero | fpEq | fpLexl | fpTobytes | fp2Iszero | fp2Eq | scIszero | scEq | scTobytes | paIsid | paOncurve | paTorsionfree
    | paEq | paTocomp | paTouncomp | ppIsid | ppOncurve | ppEq => constructor
  -- results in F
  | fpZero d => exact .writeF p_pos
  | fpOne d => exact .writeF one_lt_p
  | fpMov d a => exact .writeF (h.F a)
  | fpAdd d a b => exact .writeF (fpAdd_lt _ _)
  | fpSub d a b => exact .writeF (fpSub_lt _ _)
  | fpNeg d a => exact .writeF (fpNeg_lt _)
  | fpMul d a b => exact .writeF (fpMul_lt _ _)
  | fpSqr d a => exact .writeF (fpSqr_lt _)
  | fpInv d a => simp only [effect]; exact Effect.canonical_ite (fun _ => .fail) fun _ => .writeF (fpInv_lt _)
  | fpSqrt d a => simp only [effect]; exact Effect.canonical_orFail fun v hv => .writeF (fpSqrt?_lt hv)
  | fpFrombytes d => simp only [effect]; exact Effect.canonical_ite (fun _ => .fail) fun h => .writeF (Nat.not_le.1 h)
  | fpSop d a b n => simp only [effect]; exact Effect.canonical_ite (fun _ => .writeF (fpSumOfProducts_lt _)) fun _ => .fail
  | fp2C0 d a => exact .writeF (h.regE a).c0
  | fp2C1 d a => exact .writeF (h.regE a).c1
  | paGetx d a => exact .writeF (h.regA a).x
  | paGety d a => exact .writeF (h.regA a).y
  | ppGetx d a => exact .writeF (h.regP a).X
  | ppGety d a => exact .writeF (h.regP a).Y
  | ppGetz d a => exact .writeF (h.regP a).Z
  -- results in E
  | fp2Zero d => exact .writeE canonical_fp2Zero
  | fp2One d => exact .writeE canonical_fp2One
  | fp2Mov d a => exact .writeE (h.regE a)
  | fp2Pack d a b => exact .writeE ⟨h.F a, h.F b⟩
  | fp2Add d a b => exact .writeE ⟨fpAdd_lt _ _, fpAdd_lt _ _⟩
  | fp2Sub d a b => exact .writeE ⟨fpSub_lt _ _, fpSub_lt _ _⟩
  | fp2Neg d a => exact .writeE ⟨fpNeg_lt _, fpNeg_lt _⟩
  | fp2Mul d a b => exact .writeE (canonical_fp2Mul _ _)
  | fp2Sqr d a => exact .writeE ⟨fpMul_lt _ _, fpMul_lt _ _⟩
  | fp2Conj d a | fp2Frob d a => exact .writeE ⟨(h.regE a).c0, fpNeg_lt _⟩
  | fp2Mulnr d a => exact .writeE ⟨fpSub_lt _ _, fpAdd_lt _ _⟩
  | fp2Inv d a => simp only [effect]; exact Effect.canonical_orFail fun v hv => .writeE (canonical_fp2Inv? hv)
  | fp2Sqrt d a => simp only [effect]; exact Effect.canonical_orFail fun v hv => .writeE (canonical_fp2Sqrt? hv)
  | fp2Pow d a b => exact .writeE (canonical_fp2Pow _ _)
  -- results in S
  | scZero d => exact .writeS r_pos
  | scOne d => exact .writeS one_lt_r
  | scMov d a => exact .writeS (h.S a)
  | scAdd d a b => exact .writeS (addMod_lt r_pos _ _)
  | scSub d a b => exact .writeS (subMod_lt r_pos _ _)
  | scNeg d a => exact .writeS (negMod_lt r_pos _)
  | scMul d a b => exact .writeS (mulMod_lt r_pos _ _)
  | scSqr d a => exact .writeS (mulMod_lt r_pos _ _)
  | scInv d a => simp only [effect]; exact Effect.canonical_ite (fun _ => .fail) fun _ => .writeS (scInv_lt _)
  | scSqrt d a => simp only [effect]; exact Effect.canonical_orFail fun v hv => .writeS (scSqrt?_lt hv)
  | scPow d a b => exact .writeS (scPow_lt _ _)
  | scFrombytes d => simp only [effect]; exact Effect.canonical_ite (fun _ => .fail) fun h => .writeS (Nat.not_le.1 h)
  | scFromwide d => exact .writeS (Nat.mod_lt _ r_pos)
  -- results in A
  | paIdentity d => exact .writeA canonical_identityA
  | paGen d => exact .writeA (canonical_finite generator_lt.1 generator_lt.2)
  | paMov d a => exact .writeA (h.regA a)
  | paSet d a b => exact .writeA (canonical_finite (h.F a) (h.F b))
  | paNeg d a => exact .writeA (canonical_affNeg (h.regA a))
  | paEndo d a => exact .writeA (canonical_endo (h.regA a))
  | paFromproj d a => exact .writeA (canonical_toAffine _)
  | paFromcomp d =>
    simp only [effect]
    exact Effect.canonical_orFail fun v hv =>
      .writeA (canonical_decodeCompressedUnchecked (eq_some_of_validated hv))
  | paFromcompu d =>
    simp only [effect]
    exact Effect.canonical_orFail fun v hv => .writeA (canonical_decodeCompressedUnchecked hv)
  | paFromuncomp d =>
    simp only [effect]
    exact Effect.canonical_orFail fun v hv =>
      .writeA (canonical_decodeUncompressedUnchecked (eq_some_of_validated hv))
  | paFromuncompu d =>
    simp only [effect]
    exact Effect.canonical_orFail fun v hv => .writeA (canonical_decodeUncompressedUnchecked hv)
  | ppBatchnorm d a n =>
    simp only [effect]
    refine Effect.canonical_ite (fun _ => .writeRangeA fun x hx => ?_) fun _ => .fail
    obtain ⟨P, -, rfl⟩ := List.mem_map.1 hx
    exact canonical_toAffine P
  -- results in P
  | ppIdentity d => exact .writeP canonical_identityP
  | ppGen d => exact .writeP ⟨generator_lt.1, generator_lt.2, one_lt_p⟩
  | ppMov d a => exact .writeP (h.regP a)
  | ppSet d a b c => exact .writeP ⟨h.F a, h.F b, h.F c⟩
  | paAdd d a b => exact .writeP (canonical_projAddMixed (canonical_promote (h.regA a)) _)
  | ppFromaff d a => exact .writeP (canonical_promote (h.regA a))
  | ppNeg d a => exact .writeP (canonical_projNeg (h.regP a))
  | ppDbl d a => exact .writeP (canonical_projDouble _)
  | ppAdd d a b | ppSub d a b => exact .writeP (canonical_projAdd _ _)
  | ppAddm d a b => exact .writeP (canonical_projAddMixed (h.regP a) _)
  | paMul d a b | ppMul d a b => exact .writeP (canonical_scalarMul _ _)
  | ppClearcof d a => exact .writeP (canonical_clearCofactor _)

/-- So is the effect of every accepted word, legal or not. -/
theorem canonical_wordEffect {fs : Files} (h : fs.Canonical) (w : Word) : (wordEffect w fs).Canonical := by
  unfold wordEffect
  split
  · exact canonical_effect h _
  · exact .fail

theorem canonical_filesReset : Files.reset.Canonical where
  F i := by simp [Files.reset, p_pos]
  E i := by simp [Files.reset, p_pos]
  S i := by simp [Files.reset, r_pos]
  A i := by simp [Files.reset, Affine.identity, p_pos, one_lt_p]
  P i := by simp [Files.reset, Proj.identity, p_pos, one_lt_p]
  identity i _ := by simp [Files.reset]
  BUF := rfl

end Sys2Proof.Machine
end

section
/-! What every step keeps: the invariant of Safety.lean, an accepted command's operands up to its completion, and the bits of STICKY;
and the values after reset (10_state.md R55 to R74, 70_reset_and_hazards.md R620 to R631). -/

namespace Sys2Proof.Machine

/-! ## Completion -/

/-- The codes 5 to 15 are never written (60_exceptions.md R589). -/
theorem errAfter_le_four (code : Option ErrorKind) : (errAfter code).toNat ≤ 4 := by
  cases code with
  | none => decide
  | some k => cases k <;> decide

/-- Settles O8, from the one form of every completion. -/
theorem completionIsAtomic : Obligations.CompletionIsAtomic := by
  intro w s
  obtain ⟨fs, flag, code, hrun, hfail⟩ := runWord_completes w s
  refine ⟨_, hrun, rfl, rfl, rfl, rfl, rfl, rfl, ?_⟩
  cases code with
  | none => exact ⟨fun _ => rfl, fun h => absurd rfl h⟩
  | some k =>
    exact ⟨fun h => absurd h k.code_ne_zero,
      fun _ => ⟨errAfter_le_four (some k), congrArg (s.STICKY ||| ·) k.stickyBit_eq, hfail nofun⟩⟩

/-! ## The invariant -/

/-- The invariant speaks of these five fields alone. -/
theorem State.Inv.of_eq {s t : State} (h : s.Inv) (hfiles : t.files = s.files) (hbusy : t.BUSY = s.BUSY) (hcmd : t.CMD = s.CMD)
    (hpending : t.PENDING = s.PENDING) (herr : t.ERR = s.ERR) : t.Inv where
  files := hfiles ▸ h.files
  busy := by rw [hbusy, hpending, h.busy]
  captured q hq := by rw [hcmd, hfiles]; exact h.captured q (hpending ▸ hq)
  err := herr ▸ h.err

/-- A state with no command in flight has the invariant when its files and ERR are in range. -/
theorem State.Inv.of_idle {s : State} (hfiles : s.files.Canonical) (hbusy : s.BUSY = false) (hpending : s.PENDING = none)
    (herr : s.ERR.toNat ≤ 4) : s.Inv where
  files := hfiles
  busy := by rw [hbusy, hpending]; rfl
  captured q hq := by rw [hpending] at hq; cases hq
  err := herr

theorem State.Inv.pending_none {s : State} (h : s.Inv) (hbusy : s.BUSY = false) : s.PENDING = none := by
  simpa [hbusy] using h.busy

/-- Under the invariant the operands of a command are the registers (10_state.md R72). -/
theorem State.Inv.operands_eq {s : State} (h : s.Inv) : s.operands = s.files := by
  cases hp : s.PENDING with
  | none => exact s.operands_idle hp
  | some q => rw [s.operands_inFlight q hp, (h.captured q hp).2]

theorem inv_resetCore (s : State) : s.resetCore.Inv := .of_idle canonical_filesReset rfl rfl (by simp)

/-- A completion keeps the invariant. -/
theorem inv_apply_wordEffect {s : State} (h : s.Inv) (w : Word) : ((wordEffect w s.operands).apply s).Inv := by
  refine .of_idle ?_ rfl rfl (errAfter_le_four _)
  rw [h.operands_eq]
  exact Effect.canonical_files (canonical_wordEffect h.files w) h.files

/-- So does the core's turn. -/
theorem inv_of_coreTurn {s t : State} (h : s.Inv) (ht : coreTurn s = .next t) : t.Inv := by
  cases hp : s.PENDING with
  | none =>
    rw [coreTurn_idle s hp] at ht
    cases ht
    exact h
  | some q =>
    rw [coreTurn_pending s q hp, runWord_eq] at ht
    cases ht
    exact inv_apply_wordEffect h q.word

/-- So does a host access. -/
theorem AccessOutcome.inv {s t : State} {a : HostAccess} (h : s.Inv) (ht : AccessOutcome s a t) : t.Inv := by
  cases ht with
  | answered | ignored | dropped | cleared => exact h.of_eq rfl rfl rfl rfl rfl
  | accepted _ w =>
    refine ⟨h.files, rfl, fun q hq => ?_, h.err⟩
    cases hq
    exact ⟨rfl, rfl⟩
  | stored idle k bs => exact .of_idle (h.files.withBUF (bufWrite_wf h.files.BUF)) idle (h.pending_none idle) h.err
  | reset => exact inv_resetCore s

/-- The turn that a step takes is no part of the invariant. -/
theorem State.Inv.withTurns {s : State} (h : s.Inv) (ts : List Turn) : State.Inv { s with turns := ts } :=
  h.of_eq rfl rfl rfl rfl rfl

/-- Settles O23, by the turn that the step takes. -/
theorem stepKeepsTheInvariant : Obligations.StepKeepsTheInvariant := by
  intro s t h ht
  match hts : s.turns with
  | [] =>
    rw [step_nil s hts] at ht
    exact inv_of_coreTurn h ht
  | .core :: rest =>
    rw [step_core s rest hts] at ht
    exact inv_of_coreTurn (h.withTurns rest) ht
  | .host a :: rest =>
    rw [step_host s a rest hts] at ht
    cases ht
    exact (accessOutcome _ a).inv (h.withTurns rest)
  | .powerOnReset :: rest =>
    rw [step_powerOnReset s rest hts] at ht
    cases ht
    exact inv_resetCore _

/-! ## Reset -/

/-- Settles O24. -/
theorem resetHasTheInvariant : Obligations.ResetHasTheInvariant := .of_idle canonical_filesReset rfl rfl (by decide)

theorem statusWord_resetCore (s : State) : s.resetCore.statusWord = 0 :=
  show State.reset.statusWord = 0 from rfl

/-- A reset turn resets the core (70_reset_and_hazards.md R620). -/
theorem step_of_isReset {s : State} {x : Turn} {rest : List Turn} (hx : Spec.isReset x = true) (hts : s.turns = x :: rest) :
    step s = .next ({ s with turns := rest }.resetCore) := by
  match x with
  | .powerOnReset => exact step_powerOnReset s rest hts
  | .host (.write addr bytes v) =>
    simp only [Spec.isReset, Bool.and_eq_true, decide_eq_true_eq] at hx
    obtain ⟨⟨rfl, rfl⟩, hv⟩ := hx
    rw [step_host s _ rest hts, access_write_ctrl, State.writeCTRL_reset _ hv]

/-- Settles O21: the reset values are literal, and both reset turns give them. -/
theorem resetGivesTheListedValues : Obligations.ResetGivesTheListedValues := by
  refine ⟨?_, ?_, ?_, ?_, ?_, fun _ => rfl, rfl, rfl, rfl, rfl, rfl, rfl, rfl, fun s x rest hx hts =>
    ⟨_, step_of_isReset hx hts, rfl, rfl, statusWord_resetCore _, rfl, rfl⟩⟩
  all_goals
    intro i
    exact Vector.getElem_replicate i.isLt

/-! ## An accepted command completes on the operands it captured -/

/-- The states that a host access leaves a busy core in, as far as the command in flight can tell. -/
structure SameCommand (s u : State) : Prop where
  files : u.files = s.files
  CMD : u.CMD = s.CMD
  FLAG : u.FLAG = s.FLAG
  BUSY : u.BUSY = s.BUSY
  PENDING : u.PENDING = s.PENDING

theorem SameCommand.trans {s u v : State} (h : SameCommand s u) (h' : SameCommand u v) : SameCommand s v :=
  ⟨h'.files.trans h.files, h'.CMD.trans h.CMD, h'.FLAG.trans h.FLAG, h'.BUSY.trans h.BUSY, h'.PENDING.trans h.PENDING⟩

theorem SameCommand.withTurns (s : State) (ts : List Turn) : SameCommand s { s with turns := ts } := ⟨rfl, rfl, rfl, rfl, rfl⟩

/-- While BUSY a host access that is no reset leaves the command in flight as it is (20_memory.md R126 to R130). -/
theorem AccessOutcome.sameCommand {s t : State} {a : HostAccess} (ht : AccessOutcome s a t) (hbusy : s.BUSY = true)
    (hreset : Spec.isReset (.host a) = false) : SameCommand s t := by
  cases ht with
  | answered | ignored | dropped | cleared => exact ⟨rfl, rfl, rfl, rfl, rfl⟩
  | accepted idle | stored idle => exact absurd hbusy (by simp [idle])
  | reset turn => exact absurd turn (by simp [hreset])

/-- No access moves the turns. -/
theorem AccessOutcome.turns_eq {s t : State} {a : HostAccess} (ht : AccessOutcome s a t) : t.turns = s.turns := by
  cases ht <;> rfl

/-- Within one more step than there are turns the core completes its command, in a state that the command cannot tell from s. -/
theorem run_reaches_completion (q : InFlight) (ts : List Turn) (hreset : ∀ x ∈ ts, Spec.isReset x = false) (s : State)
    (hts : s.turns = ts) (hbusy : s.BUSY = true) (hq : s.PENDING = some q) :
    ∃ (k : Nat) (u : State), k ≤ ts.length + 1 ∧ SameCommand s u ∧
      Sys2Proof.core.run k s = .next ((wordEffect q.word q.operands).apply u) := by
  have hcore (u : State) (hu : u.PENDING = some q) : coreTurn u = .next ((wordEffect q.word q.operands).apply u) := by
    rw [coreTurn_pending u q hu, runWord_eq, u.operands_inFlight q hu]
  induction ts generalizing s with
  | nil => exact ⟨1, s, Nat.le_refl 1, ⟨rfl, rfl, rfl, rfl, rfl⟩, run_succ ((step_nil s hts).trans (hcore s hq)) 0⟩
  | cons x rest ih =>
    cases x with
    | core =>
      exact ⟨1, _, by omega, .withTurns s rest, run_succ ((step_core s rest hts).trans (hcore { s with turns := rest } hq)) 0⟩
    | powerOnReset => exact absurd (hreset _ List.mem_cons_self) (by decide)
    | host a =>
      have hout := accessOutcome { s with turns := rest } a
      have hsame := (SameCommand.withTurns s rest).trans (hout.sameCommand hbusy (hreset _ List.mem_cons_self))
      obtain ⟨k, u, hk, hu, hrun⟩ := ih (fun x hx => hreset x (List.mem_cons_of_mem _ hx)) _ hout.turns_eq
        (hsame.BUSY.trans hbusy) (hsame.PENDING.trans hq)
      exact ⟨k + 1, u, Nat.succ_le_succ hk, hsame.trans hu, (run_succ (step_host s a rest hts) k).trans hrun⟩

/-- Settles O13: the effect is fixed by the captured operands, and host accesses before the completion leave the files and FLAG. -/
theorem acceptedCommandCompletesOnItsOperands : Obligations.AcceptedCommandCompletesOnItsOperands := by
  intro s v q hbusy hq hreset hv
  rw [runWord_eq, s.operands_inFlight q hq] at hv
  cases hv
  obtain ⟨k, u, hk, hu, hrun⟩ := run_reaches_completion q s.turns hreset s rfl hbusy hq
  refine ⟨k, _, hk, hrun, rfl, rfl, ?_, ?_, rfl, hu.CMD⟩
  · rw [Effect.apply_files, Effect.apply_files, hu.files]
  · rw [Effect.apply_FLAG, Effect.apply_FLAG, hu.FLAG]

/-! ## STICKY (10_state.md R67) -/

theorem and_or_self_eq {n : Nat} (x y : BitVec n) : x &&& (x ||| y) = x := by
  refine BitVec.eq_of_getLsbD_eq fun i _ => ?_
  rw [BitVec.getLsbD_and, BitVec.getLsbD_or]
  cases x.getLsbD i <;> rfl

/-- A completion sets bits of STICKY and clears none. -/
theorem and_stickyAfter (x : BitVec 5) (code : Option ErrorKind) : x &&& stickyAfter x code = x := by
  cases code with
  | none => exact BitVec.and_self
  | some k => exact and_or_self_eq x _

theorem sticky_of_coreTurn {s t : State} (ht : coreTurn s = .next t) : s.STICKY &&& t.STICKY = s.STICKY := by
  cases hp : s.PENDING with
  | none =>
    rw [coreTurn_idle s hp] at ht
    cases ht
    exact BitVec.and_self
  | some q =>
    rw [coreTurn_pending s q hp, runWord_eq] at ht
    cases ht
    exact and_stickyAfter _ _

/-- The turns that reset the core clear STICKY. -/
theorem clearsSticky_of_isReset {x : Turn} (h : Spec.isReset x = true) : Spec.clearsSticky x = true := by
  match x with
  | .powerOnReset => rfl
  | .host (.write addr bytes v) =>
    simp only [Spec.isReset, Bool.and_eq_true, decide_eq_true_eq] at h
    simp [Spec.clearsSticky, h]

/-- An access that does not clear STICKY clears no bit of it. -/
theorem AccessOutcome.sticky {s t : State} {a : HostAccess} (ht : AccessOutcome s a t)
    (hclear : Spec.clearsSticky (.host a) = false) : s.STICKY &&& t.STICKY = s.STICKY := by
  cases ht with
  | answered | ignored | accepted | stored => exact BitVec.and_self
  | dropped => exact and_or_self_eq _ _
  | cleared turn => exact absurd turn (by simp [hclear])
  | reset turn => exact absurd (clearsSticky_of_isReset turn) (by simp [hclear])

/-- A step whose turn does not clear STICKY clears no bit of it. -/
theorem sticky_of_step {s t : State} (hclear : ∀ x ∈ s.turns.head?, Spec.clearsSticky x = false) (ht : step s = .next t) :
    s.STICKY &&& t.STICKY = s.STICKY := by
  match hts : s.turns with
  | [] =>
    rw [step_nil s hts] at ht
    exact sticky_of_coreTurn ht
  | .core :: rest =>
    rw [step_core s rest hts] at ht
    exact sticky_of_coreTurn (s := { s with turns := rest }) ht
  | .host a :: rest =>
    rw [step_host s a rest hts] at ht
    cases ht
    exact (accessOutcome { s with turns := rest } a).sticky (hclear _ (by simp [hts]))
  | .powerOnReset :: rest => exact absurd (hclear .powerOnReset (by simp [hts])) (by decide)

/-- An error's own bit is set by `stickyAfter`. -/
theorem getLsbD_stickyAfter (x : BitVec 5) (k : ErrorKind) : (stickyAfter x (some k)).getLsbD (k.code.toNat - 1) = true := by
  rw [stickyAfter, BitVec.getLsbD_or, Bool.or_eq_true]
  exact .inr (by cases k <;> decide)

/-- A completion with an error shows the error's bit in STATUS. -/
theorem statusWord_of_error {w : Word} {s t : State} (ht : runWord w s = .next t) (herr : t.ERR ≠ 0) :
    t.statusWord.getLsbD (7 + t.ERR.toNat) = true := by
  obtain ⟨fs, flag, code, hrun, -⟩ := runWord_completes w s
  cases hrun.symm.trans ht
  cases code with
  | none => exact absurd rfl herr
  | some k =>
    have hcode : 7 + k.code.toNat = 8 + (k.code.toNat - 1) ∧ k.code.toNat - 1 < 5 := by cases k <;> decide
    rw [State.complete_ERR, errAfter, hcode.1, State.getLsbD_statusWord_sticky _ hcode.2]
    exact getLsbD_stickyAfter _ k

/-- A dropped write shows HOST_OVERRUN in STATUS. -/
theorem statusWord_overrun (s : State) : s.overrun.statusWord.getLsbD 12 = true := by
  rw [State.getLsbD_statusWord_sticky _ (k := 4) (by decide), State.overrun_STICKY, BitVec.getLsbD_or, Bool.or_eq_true]
  exact .inr rfl

/-- A write of CTRL with bit 0 or bit 1 set clears STICKY. -/
theorem sticky_writeCTRL (s : State) {v : Word} (h : v.getLsbD 0 = true ∨ v.getLsbD 1 = true) : (s.writeCTRL v).STICKY = 0 := by
  cases h0 : v.getLsbD 0 with
  | true => rw [s.writeCTRL_reset h0]; rfl
  | false =>
    rw [s.writeCTRL_clear h0 (h.resolve_left (by rw [h0]; decide))]
    rfl

/-- Settles O25: what sets a bit, what keeps it, and what clears it. -/
theorem stickyAccumulates : Obligations.StickyAccumulates := by
  refine ⟨fun w s t => statusWord_of_error, fun s w hbusy => ?_, fun s k v hk hbusy => ?_, fun s t => sticky_of_step,
    ⟨rfl, rfl, rfl, rfl⟩, fun s v h => ?_⟩
  · rw [access_write_cmd, s.writeCMD_busy hbusy]
    exact statusWord_overrun s
  · rw [← bufOffset, access_write_bufWord s hk, s.writeBufWord_busy hbusy]
    exact statusWord_overrun s
  · rw [access_write_ctrl]
    exact sticky_writeCTRL s h

end Sys2Proof.Machine
end

section
/-! The 8-byte codecs and the limb encodings (20_memory.md R135 to R140): each is `le_bytes` of the integer it encodes, or that reversed, so
that their round trips and sums are those of `leBytes` and `leInt`. -/

namespace Sys2Proof.Machine

/-! ## One limb (20_memory.md R135 to R138) -/

/-- A byte of a 64-bit word is a digit in base 256. -/
theorem extractLsb'_ofNat_byte {i : Nat} (hi : i < 8) (x : Nat) :
    (BitVec.ofNat 64 x).extractLsb' (8 * i) 8 = BitVec.ofNat 8 (x / 256 ^ i) := by
  refine BitVec.eq_of_getLsbD_eq fun j hj => ?_
  rw [show (256 : Nat) ^ i = 2 ^ (8 * i) by rw [Nat.pow_mul], BitVec.getLsbD_extractLsb', BitVec.getLsbD_ofNat,
    BitVec.getLsbD_ofNat, Nat.testBit_div_two_pow, decide_eq_true hj, decide_eq_true (show 8 * i + j < 64 by omega),
    Bool.true_and, Nat.add_comm j]

theorem u64ToLe8_ofNat (x : Nat) : u64ToLe8 (BitVec.ofNat 64 x) = leBytes 8 x := by
  refine List.ext_getElem (by simp [u64ToLe8]) fun i h1 h2 => ?_
  have hi : i < 8 := by simpa using h2
  rw [← List.getD_eq_getElem _ 0 h2, getD_leBytes hi]
  simpa [u64ToLe8] using extractLsb'_ofNat_byte hi x

theorem u64ToLe8_eq (v : BitVec 64) : u64ToLe8 v = leBytes 8 v.toNat := by
  rw [← u64ToLe8_ofNat, BitVec.ofNat_toNat, BitVec.setWidth_eq]

/-- The big-endian codec is the little-endian one reversed. -/
theorem u64ToBe8_eq_reverse (v : BitVec 64) : u64ToBe8 v = (u64ToLe8 v).reverse := rfl

theorem u64ToBe8_eq (v : BitVec 64) : u64ToBe8 v = beBytes 8 v.toNat := by
  rw [u64ToBe8_eq_reverse, u64ToLe8_eq, beBytes]

theorem getD_u64ToBe8 {i : Nat} (hi : i < 8) (v : BitVec 64) : (u64ToBe8 v).getD i 0 = v.extractLsb' (56 - 8 * i) 8 := by
  simp [u64ToBe8, hi]

theorem getD_u64ToLe8 {i : Nat} (hi : i < 8) (v : BitVec 64) : (u64ToLe8 v).getD i 0 = v.extractLsb' (8 * i) 8 := by
  simp [u64ToLe8, hi]

theorem le8ToU64_u64ToLe8 (v : BitVec 64) : le8ToU64 (u64ToLe8 v) = v := by
  rw [le8ToU64, u64ToLe8_eq, leInt_leBytes v.isLt, BitVec.ofNat_toNat, BitVec.setWidth_eq]

theorem be8ToU64_u64ToBe8 (v : BitVec 64) : be8ToU64 (u64ToBe8 v) = v := by
  rw [be8ToU64, u64ToBe8_eq, beInt_beBytes v.isLt, BitVec.ofNat_toNat, BitVec.setWidth_eq]

/-- 8 bytes fit in 64 bits. -/
theorem toNat_le8ToU64 {bs : List Byte} (h : bs.length = 8) : (le8ToU64 bs).toNat = leInt bs :=
  Nat.mod_eq_of_lt (by simpa [h] using leInt_lt bs)

theorem toNat_be8ToU64 {bs : List Byte} (h : bs.length = 8) : (be8ToU64 bs).toNat = beInt bs :=
  Nat.mod_eq_of_lt (by simpa [h] using beInt_lt bs)

/-! ## The limbs of an integer (20_memory.md R139, R140) -/

theorem getD_limbs {n i : Nat} (hi : i < n) (v : Nat) : (limbs n v).getD i 0 = BitVec.ofNat 64 (v / 2 ^ (64 * i)) := by
  simp [limbs, hi, Nat.shiftRight_eq_div_pow]

theorem limbs_succ (n v : Nat) : limbs (n + 1) v = limbs n v ++ [BitVec.ofNat 64 (v / 256 ^ (8 * n))] := by
  rw [limbs, List.range_succ, List.map_append, List.map_singleton, Nat.shiftRight_eq_div_pow,
    show (256 : Nat) ^ (8 * n) = 2 ^ (64 * n) by rw [show (256 : Nat) = 2 ^ 8 by rfl, ← Nat.pow_mul, ← Nat.mul_assoc]]
  rfl

/-- An encoding cut in two. -/
theorem leBytes_add (a b v : Nat) : leBytes (a + b) v = leBytes a v ++ leBytes b (v / 256 ^ a) := by
  induction a generalizing v with
  | zero => simp [leBytes]
  | succ a ih =>
    rw [Nat.add_right_comm, leBytes, leBytes, ih, List.cons_append, Nat.div_div_eq_div_mul, Nat.pow_succ']

/-- The limbs, least significant first, give the little-endian encoding of the whole integer. -/
theorem flatten_limbs_le (n v : Nat) : ((limbs n v).map u64ToLe8).flatten = leBytes (8 * n) v := by
  induction n with
  | zero => rfl
  | succ n ih =>
    rw [limbs_succ, List.map_append, List.flatten_append, ih, List.map_singleton, List.flatten_singleton, u64ToLe8_ofNat,
      Nat.mul_succ, leBytes_add]

/-- The limbs, most significant first, give the big-endian one. -/
theorem flatten_limbs_be (n v : Nat) : ((limbs n v).reverse.map u64ToBe8).flatten = beBytes (8 * n) v := by
  rw [beBytes, ← flatten_limbs_le, List.reverse_flatten, List.map_map, ← List.map_reverse]
  rfl

/-- Settles O60: byte i is a digit in base 256, and the round trips and the sums are those of whole integers. -/
theorem byteCodecHelpersRoundTrip : Obligations.ByteCodecHelpersRoundTrip := by
  refine ⟨fun v i hi => ⟨getD_u64ToBe8 hi v, getD_u64ToLe8 hi v⟩, fun v => ⟨?_, ?_, be8ToU64_u64ToBe8 v, le8ToU64_u64ToLe8 v⟩,
    fun bs h => ⟨?_, ?_⟩, fun v => ⟨flatten_limbs_be 6 v, flatten_limbs_le 4 v, fun n i hi => getD_limbs hi v⟩⟩
  · rw [u64ToBe8_eq, length_beBytes]
  · rw [u64ToLe8_eq, length_leBytes]
  · rw [toNat_be8ToU64 h, beInt_eq_sum, h]
  · rw [toNat_le8ToU64 h, leInt_eq_sum, h]

end Sys2Proof.Machine
end

section
/-! BUF through the window (20_memory.md R122 to R127): a word is the integer of its four bytes, a write on an idle core stores them,
and what the window ignores. -/

namespace Sys2Proof.Machine

/-! ## BUF words -/

/-- Two byte sequences written one after the other. -/
theorem bufWrite_append (m : Memory) (off : Nat) (as bs : List Byte) :
    bufWrite m off (as ++ bs) = bufWrite (bufWrite m off as) (off + as.length) bs := by
  induction as generalizing m off with
  | nil => rfl
  | cons a as ih => rw [List.cons_append, bufWrite, bufWrite, ih, List.length_cons, Nat.add_right_comm, Nat.add_assoc]

/-- A byte outside the written range. -/
theorem bufByte_bufWrite_outside {m : Memory} {off : Nat} {bs : List Byte} {i : Nat} (h : Memory.wf m = true)
    (hoff : off ≤ bufSize) (hi : i < off ∨ off + bs.length ≤ i) : bufByte (bufWrite m off bs) i = bufByte m i := by
  rcases hi with hi | hi
  · rw [bufByte_bufWrite h (by omega), if_neg (by omega)]
  · exact bufByte_bufWrite_above hi

/-- A byte inside it. -/
theorem bufByte_bufWrite_inside {m : Memory} {off : Nat} {bs : List Byte} {j : Nat} (h : Memory.wf m = true)
    (hend : off + bs.length ≤ bufSize) (hj : j < bs.length) : bufByte (bufWrite m off bs) (off + j) = bs.getD j 0 := by
  rw [bufByte_bufWrite h (by omega), if_pos (by omega), Nat.add_sub_cancel_left]

/-- A byte put below a bit vector, as an integer. -/
theorem toNat_append_byte {n : Nat} (x : BitVec n) (y : Byte) : (x ++ y).toNat = y.toNat + 256 * x.toNat := by
  rw [BitVec.toNat_append, ← Nat.shiftLeft_add_eq_or_of_lt y.isLt, Nat.shiftLeft_eq]
  omega

/-- A BUF word is the little-endian integer of its four bytes (20_memory.md R125). -/
theorem toNat_bufWord (m : Memory) (k : Nat) : (bufWord m k).toNat = leInt (bufRead m (4 * k) 4) := by
  rw [bufWord, toNat_append_byte, toNat_append_byte, toNat_append_byte]
  rfl

theorem bufWord_eq_sum (m : Memory) (k : Nat) :
    bufWord m k = BitVec.ofNat 32 (∑ j ∈ Finset.range 4, (bufByte m (4 * k + j)).toNat * 256 ^ j) := by
  rw [← BitVec.setWidth_eq (bufWord m k), ← BitVec.ofNat_toNat, toNat_bufWord, leInt_eq_sum, length_bufRead]
  exact congrArg _ (Finset.sum_congr rfl fun j hj => by rw [getD_bufRead (Finset.mem_range.1 hj)])

@[simp] theorem length_wordBytes (v : Word) : (wordBytes v).length = 4 := rfl

theorem getD_wordBytes {j : Nat} (hj : j < 4) (v : Word) : (wordBytes v).getD j 0 = v.extractLsb' (8 * j) 8 := by
  interval_cases j <;> rfl

/-! ## Accesses to BUF words (20_memory.md R126, R127) -/

theorem access_read_bufWord (s : State) {k : Nat} (hk : k < 24) :
    s.access (.read (bufOffset k) 4) = s.readPlace (.bufWord k) :=
  access_read_of_placeAt s (by rw [toNat_bufOffset hk]; omega) (placeAt_bufOffset hk)

theorem State.readPlace_bufWord_busy (s : State) (h : s.BUSY = true) (k : Nat) : s.readPlace (.bufWord k) = s.respondFree := if_pos h

theorem State.readPlace_bufWord_idle (s : State) (h : s.BUSY = false) (k : Nat) :
    s.readPlace (.bufWord k) = s.respond (bufWord s.files.BUF k) := if_neg (by rw [h]; decide)

theorem State.writeBufWord_idle (s : State) (h : s.BUSY = false) (k : Nat) (v : Word) :
    s.writeBufWord k v = { s with files := { s.files with BUF := bufWrite s.files.BUF (4 * k) (wordBytes v) } } :=
  if_neg (by rw [h]; decide)

/-- Settles O16: on an idle core the bytes are those of one written sequence of four. -/
theorem bufWriteStoresFourBytes : Obligations.BufWriteStoresFourBytes := by
  intro s k v hk hwf t
  have ht : t = s.writeBufWord k v := access_write_bufWord s hk v
  refine ⟨fun hbusy => ?_, fun hbusy => ht.trans (s.writeBufWord_busy hbusy k v)⟩
  have hsize : bufSize = 96 := rfl
  have hlen := length_wordBytes v
  rw [s.writeBufWord_idle hbusy] at ht
  rw [ht]
  refine ⟨rfl, bufWrite_wf hwf, fun j hj => ?_, fun i hi => bufByte_bufWrite_outside hwf (by omega) hi⟩
  rw [bufByte_bufWrite_inside hwf (by omega) hj, getD_wordBytes hj]

/-- Settles O17: an idle core answers with the word, a busy one with the next free value. -/
theorem bufReadPacksFourBytes : Obligations.BufReadPacksFourBytes := by
  intro s k hk
  rw [← bufOffset, access_read_bufWord s hk, ← bufWord_eq_sum]
  exact ⟨fun h => s.readPlace_bufWord_idle h k, fun h => s.readPlace_bufWord_busy h k⟩

/-! ## What the window ignores (20_memory.md R122 to R124) -/

theorem not_admitted {addr : Offset} {bytes : Nat} (h : bytes ≠ 4 ∨ addr.toNat % 4 ≠ 0) : ¬admitted addr bytes = true := by
  rw [admitted_iff]
  omega

theorem access_write_of_not_admitted (s : State) {addr : Offset} {bytes : Nat} (h : ¬admitted addr bytes = true) (v : Word) :
    s.access (.write addr bytes v) = s := if_neg h

theorem access_read_of_not_admitted (s : State) {addr : Offset} {bytes : Nat} (h : ¬admitted addr bytes = true) :
    s.access (.read addr bytes) = s.respond 0 := if_neg h

/-- Settles O19: what is not admitted reaches no place, and the places that are not written keep the state. -/
theorem inadmissibleAndReadOnlyAccessesAreIgnored : Obligations.InadmissibleAndReadOnlyAccessesAreIgnored := by
  intro s addr bytes v
  refine ⟨fun h => ⟨access_write_of_not_admitted s (not_admitted h) v, access_read_of_not_admitted s (not_admitted h)⟩, ?_⟩
  rintro (rfl | rfl | rfl | h)
  · exact access_write_of_placeAt s v rfl (x := .id) rfl
  · exact access_write_of_placeAt s v rfl (x := .version) rfl
  · exact access_write_of_placeAt s v rfl (x := .status) rfl
  · exact access_write_of_placeAt s v h.1 (placeAt_of_reservedOffset h)

end Sys2Proof.Machine
end

section
/-! The host protocol (45_system.md R543): what the turns of `issue`, `loadBuf` and `readBuf` do when they run. A wait, with or without
a command in flight, leaves the state after that command, with its STATUS as the value last read; `issue` is two waits around a write of
CMD, and a last poll. -/

namespace Sys2Proof.Machine

/-! ## The host's side of the bus -/

/-- The same core, with other turns to come and another value last read by the host. -/
def State.withHost (s : State) (ts : List Turn) (x : Word) : State := { s with turns := ts, readData := x }

/-- The same core, with a byte sequence written to BUF from an index on and other turns to come. -/
def State.withBytes (s : State) (off : Nat) (bs : List Byte) (ts : List Turn) : State :=
  { s with files := { s.files with BUF := bufWrite s.files.BUF off bs }, turns := ts }

/-- Two sequences written one after the other are one sequence. -/
theorem State.withBytes_withBytes (s : State) (off : Nat) (as bs : List Byte) (ts ts' : List Turn) :
    (s.withBytes off as ts).withBytes (off + as.length) bs ts' = s.withBytes off (as ++ bs) ts' := by
  simp only [State.withBytes, bufWrite_append]

/-- No command sees the turns or what the host last read. -/
theorem runWord_withHost {w : Word} {s u : State} (h : runWord w s = .next u) (ts : List Turn) (x : Word) :
    runWord w (s.withHost ts x) = .next (u.withHost ts x) := by
  rw [runWord_eq] at h ⊢
  cases h
  rfl

/-- A completed command leaves the core idle, with CMD as it was. -/
theorem idle_of_runWord {w : Word} {s u : State} (h : runWord w s = .next u) :
    u.BUSY = false ∧ u.PENDING = none ∧ u.CMD = s.CMD := by
  rw [runWord_eq] at h
  cases h
  exact ⟨rfl, rfl, rfl⟩

/-! ## What STATUS shows the host -/

theorem statusBusy_statusWord (s : State) : statusBusy s.statusWord = s.BUSY := State.getLsbD_statusWord s 0

theorem statusFlag_statusWord (s : State) : statusFlag s.statusWord = s.FLAG := State.getLsbD_statusWord s 1

theorem statusErr_statusWord (s : State) : statusErr s.statusWord = s.ERR := by
  refine BitVec.eq_of_getLsbD_eq fun i hi => ?_
  rw [statusErr, BitVec.getLsbD_extractLsb', State.getLsbD_statusWord, if_neg (by omega), if_neg (by omega), if_neg (by omega),
    if_pos (by omega), decide_eq_true hi, Bool.true_and, Nat.add_sub_cancel_left]

/-! ## One turn of the protocol -/

/-- The core's turn completes the command in flight. -/
theorem step_completion {s u : State} {q : InFlight} {rest : List Turn} (hq : s.PENDING = some q)
    (hu : runWord q.word s = .next u) (x : Word) : step (s.withHost (.core :: rest) x) = .next (u.withHost rest x) :=
  (step_core _ rest rfl).trans ((coreTurn_pending (s.withHost rest x) q hq).trans (runWord_withHost hu rest x))

/-- A write of CMD on an idle core is accepted (20_memory.md R128). -/
theorem step_accept {s : State} (hbusy : s.BUSY = false) (w : Word) (rest : List Turn) (x : Word) :
    step (s.withHost (.host (.write cmdOffset 4 w) :: rest) x) = .next ((s.capture w).withHost rest x) := by
  rw [step_host _ _ rest rfl, cmdOffset, access_write_cmd]
  exact congrArg _ (State.writeCMD_idle (s.withHost rest x) hbusy w)

/-- A write of a BUF word on an idle core stores its bytes (20_memory.md R126). -/
theorem step_load {s : State} {k : Nat} {v : Word} {rest : List Turn} (hbusy : s.BUSY = false) (hk : k < 24)
    (hts : s.turns = .host (.write (bufOffset k) 4 v) :: rest) :
    step s = .next (s.withBytes (4 * k) (wordBytes v) rest) := by
  rw [step_host s _ rest hts, access_write_bufWord _ hk]
  exact congrArg _ (State.writeBufWord_idle { s with turns := rest } hbusy k v)

/-- A read of a BUF word on an idle core answers with it (20_memory.md R125). -/
theorem step_read {s : State} {k : Nat} {rest : List Turn} (hbusy : s.BUSY = false) (hk : k < 24)
    (hts : s.turns = .host (.read (bufOffset k) 4) :: rest) : step s = .next (s.withHost rest (bufWord s.files.BUF k)) := by
  rw [step_host s _ rest hts, access_read_bufWord _ hk]
  exact congrArg _ (State.readPlace_bufWord_idle { s with turns := rest } hbusy k)

/-! ## Waiting -/

/-- Polls read STATUS and change nothing else. -/
theorem run_polls {s : State} {n : Nat} {rest : List Turn} (hts : s.turns = List.replicate (n + 1) pollStatus ++ rest) :
    Sys2Proof.core.run (n + 1) s = .next (s.withHost rest s.statusWord) := by
  induction n generalizing s with
  | zero => exact run_succ (step_poll s rest hts) 0
  | succ n ih => exact (run_succ (step_poll s (List.replicate (n + 1) pollStatus ++ rest) hts) (n + 1)).trans (ih rfl)

/-- Any number of polls leaves the core as it is. -/
theorem exists_run_polls {s : State} {n : Nat} {rest : List Turn} (hts : s.turns = List.replicate n pollStatus ++ rest) :
    ∃ x, Sys2Proof.core.run n s = .next (s.withHost rest x) := by
  cases n with
  | zero =>
    obtain rfl : s.turns = rest := hts
    exact ⟨s.readData, rfl⟩
  | succ n => exact ⟨_, run_polls hts⟩

/-- Every poll before the core's turn finds BUSY = 1. -/
theorem statusBusy_of_wait_poll {s : State} {m k : Nat} {rest : List Turn} (hbusy : s.BUSY = true)
    (hts : s.turns = wait (some m) ++ rest) (hk : k < m) :
    ∃ t : State, Sys2Proof.core.run (k + 1) s = .next t ∧ statusBusy t.readData = true := by
  have hm : m = (k + 1) + (m - (k + 1)) := by omega
  rw [wait, hm, List.replicate_add, List.append_assoc, List.append_assoc] at hts
  exact ⟨_, run_polls hts, (statusBusy_statusWord s).trans hbusy⟩

/-- After a wait the core is in the state that the wait is for, and the host has read its STATUS. -/
theorem run_wait {s u : State} {first : Option Nat} {rest : List Turn} (h : Spec.AfterWait s first u)
    (hts : s.turns = wait first ++ rest) :
    Sys2Proof.core.run (wait first).length s = .next (u.withHost rest u.statusWord) := by
  cases first with
  | none =>
    obtain ⟨-, rfl⟩ := h
    exact run_polls (n := 0) hts
  | some m =>
    obtain ⟨-, q, hq, hu⟩ := h
    rw [wait, List.append_assoc] at hts
    obtain ⟨x, hpolls⟩ := exists_run_polls hts
    rw [wait_some_length, run_add hpolls]
    exact (run_succ (step_completion hq hu x) 1).trans (run_polls (n := 0) rfl)

/-- After a wait BUSY is 0. -/
theorem busy_of_afterWait {s u : State} {first : Option Nat} (h : Spec.AfterWait s first u) : u.BUSY = false := by
  cases first with
  | none =>
    obtain ⟨hbusy, rfl⟩ := h
    exact hbusy
  | some m =>
    obtain ⟨-, q, -, hu⟩ := h
    exact (idle_of_runWord hu).1

/-! ## Issuing -/

/-- The turns of `issue` from the write of CMD on. -/
theorem issue_append (first : Option Nat) (w : Word) (n : Nat) (rest : List Turn) :
    issue first w n ++ rest = wait first ++ .host (.write cmdOffset 4 w) :: (wait (some n) ++ pollStatus :: rest) := by
  simp [issue]

/-- The wait after the acceptance of w is for the effect of w. -/
theorem afterWait_capture {u v : State} {w : Word} (h : runWord w (u.capture w) = .next v) (n : Nat) (ts : List Turn) (x : Word) :
    Spec.AfterWait ((u.capture w).withHost ts x) (some n) (v.withHost ts x) :=
  ⟨rfl, _, rfl, runWord_withHost h ts x⟩

section

variable {s u v : State} {first : Option Nat} {w : Word} {n : Nat} {rest : List Turn}
  (hts : s.turns = issue first w n ++ rest) (hu : Spec.AfterWait s first u) (hv : runWord w (u.capture w) = .next v)
include hts hu

/-- The word is accepted right after the first wait. -/
theorem run_issue_accept : Sys2Proof.core.run ((wait first).length + 1) s =
    .next ((u.capture w).withHost (wait (some n) ++ pollStatus :: rest) u.statusWord) := by
  rw [issue_append] at hts
  rw [run_add (run_wait hu hts)]
  exact run_succ (step_accept (busy_of_afterWait hu) w _ _) 0

/-- The polls of the second wait find BUSY = 1 until the completion. -/
theorem statusBusy_of_issue_poll {k : Nat} (hk : k < n) :
    ∃ t : State, Sys2Proof.core.run ((wait first).length + 1 + (k + 1)) s = .next t ∧ statusBusy t.readData = true := by
  rw [run_add (run_issue_accept hts hu)]
  exact statusBusy_of_wait_poll rfl rfl hk

include hv

/-- The second wait ends with the effect of w. -/
theorem run_issue_wait : Sys2Proof.core.run ((wait first).length + 1 + (n + 2)) s =
    .next (v.withHost (pollStatus :: rest) v.statusWord) := by
  rw [run_add (run_issue_accept hts hu), ← wait_some_length]
  have hwait := run_wait (afterWait_capture hv n (wait (some n) ++ pollStatus :: rest) u.statusWord) rfl
  exact hwait

/-- The last poll reads the STATUS that the host is given. -/
theorem run_issue : Sys2Proof.core.run (issue first w n).length s = .next (v.withHost rest v.statusWord) := by
  rw [issue_length, run_add (run_issue_wait hts hu hv)]
  exact run_polls (n := 0) rfl

end

/-! ## Loading and reading BUF -/

/-- The words loaded are written as one sequence of bytes. -/
theorem run_loadBuf {s : State} {k : Nat} {vs : List Word} {rest : List Turn} (hbusy : s.BUSY = false) (hk : k + vs.length ≤ 24)
    (hts : s.turns = loadBuf k vs ++ rest) :
    Sys2Proof.core.run vs.length s = .next (s.withBytes (4 * k) (vs.flatMap wordBytes) rest) := by
  induction vs generalizing s k with
  | nil =>
    obtain rfl : s.turns = rest := hts
    rfl
  | cons v vs ih =>
    rw [List.length_cons] at hk ⊢
    rw [List.flatMap_cons, ← State.withBytes_withBytes]
    exact (run_succ (step_load hbusy (by omega) hts) vs.length).trans
      (ih (s := s.withBytes _ _ (loadBuf (k + 1) vs ++ rest)) (k := k + 1) hbusy (by omega) rfl)

@[simp] theorem length_flatMap_wordBytes (vs : List Word) : (vs.flatMap wordBytes).length = 4 * vs.length := by
  simp [List.length_flatMap, Nat.mul_comm]

/-- Byte b of word j in the sequence. -/
theorem getD_flatMap_wordBytes {vs : List Word} {j b : Nat} (hj : j < vs.length) (hb : b < 4) :
    (vs.flatMap wordBytes).getD (4 * j + b) 0 = (vs.getD j 0).extractLsb' (8 * b) 8 := by
  induction vs generalizing j with
  | nil => exact absurd hj (Nat.not_lt_zero j)
  | cons v vs ih =>
    rw [List.flatMap_cons]
    cases j with
    | zero => rw [List.getD_append _ _ _ _ (by simpa using hb), Nat.mul_zero, Nat.zero_add, getD_wordBytes hb, List.getD_cons_zero]
    | succ j =>
      rw [List.getD_append_right _ _ _ _ (by simp; omega), List.getD_cons_succ, ← ih (by simpa using hj), length_wordBytes]
      congr 1
      omega

/-- The j-th read of BUF answers with word `k + j`. -/
theorem run_readBuf {s : State} {k n j : Nat} {rest : List Turn} (hbusy : s.BUSY = false) (hk : k + n ≤ 24) (hj : j < n)
    (hts : s.turns = readBuf k n ++ rest) :
    Sys2Proof.core.run (j + 1) s =
      .next (s.withHost (readBuf (k + j + 1) (n - j - 1) ++ rest) (bufWord s.files.BUF (k + j))) := by
  induction j generalizing s k n with
  | zero =>
    obtain ⟨n, rfl⟩ := Nat.exists_eq_add_one.2 hj
    exact run_succ (step_read hbusy (by omega) hts) 0
  | succ j ih =>
    obtain ⟨n, rfl⟩ := Nat.exists_eq_add_one.2 (Nat.zero_lt_of_lt hj)
    rw [show k + (j + 1) = k + 1 + j by omega, show n + 1 - (j + 1) - 1 = n - j - 1 by omega]
    exact (run_succ (step_read hbusy (by omega) hts) (j + 1)).trans
      (ih (s := s.withHost (readBuf (k + 1) n ++ rest) _) hbusy (by omega) (by omega) rfl)

/-- Settles O26: `issue` by its waits, loading as one written sequence of bytes, reading word by word. -/
theorem issueReturnsCodeAndFlag : Obligations.IssueReturnsCodeAndFlag := by
  refine ⟨fun s u v first w n rest hts hu hv => ?_, fun s k vs rest hbusy hwf hk hts => ?_, fun s k n rest hbusy hk hts j hj => ?_⟩
  · obtain ⟨hbusy, hpending, hcmd⟩ := idle_of_runWord hv
    have hread : statusBusy v.statusWord = false := (statusBusy_statusWord v).trans hbusy
    refine ⟨fun m hm k hk => ?_, ⟨_, run_wait hu (hts.trans (issue_append first w n rest)), ?_⟩,
      fun k => statusBusy_of_issue_poll hts hu, ⟨_, run_issue_wait hts hu hv, hread⟩, _, run_issue hts hu hv, rfl, hbusy, hpending,
      hread, statusErr_statusWord v, statusFlag_statusWord v, rfl, rfl, rfl, rfl, hcmd⟩
    · subst hm
      exact statusBusy_of_wait_poll hu.1 (hts.trans (issue_append (some m) w n rest)) hk
    · exact (statusBusy_statusWord u).trans (busy_of_afterWait hu)
  · have hlen := length_flatMap_wordBytes vs
    have hsize : bufSize = 96 := rfl
    refine ⟨_, run_loadBuf hbusy hk hts, rfl, fun j hj b hb => ?_, fun i hi => ?_⟩
    · rw [← getD_flatMap_wordBytes hj hb, Nat.mul_add, Nat.add_assoc]
      exact bufByte_bufWrite_inside hwf (by omega) (by omega)
    · exact bufByte_bufWrite_outside hwf (by omega) (by omega)
  · rw [run_readBuf hbusy hk hj hts, bufWord_eq_sum]
    rfl

end Sys2Proof.Machine
end

section
/-! The decoder against the encoder (30_encoding.md R182, R183, R185): what each reader and each format of R172 accepts, said once, and
then one arm of the decoder for each command. -/

namespace Sys2Proof

/-! ## The fields' readers (R174) -/

theorem toNat_field4_fin16 (d : Fin 16) : (field4 d).toNat = d := toNat_field4 d.isLt

theorem toNat_field4_fin8 (d : Fin 8) : (field4 d).toNat = d := toNat_field4 (d.isLt.trans (by decide))

theorem regF_eq_ok_iff {v : BitVec 4} {d : FReg} : regF v = .ok d ↔ field4 d = v := by
  rw [regF, Except.ok.injEq, ← BitVec.toNat_inj, toNat_field4_fin16, Fin.ext_iff, eq_comm]

theorem reg8_eq_ok_iff {v : BitVec 4} {d : Fin 8} : reg8 v = .ok d ↔ field4 d = v := by
  rw [← BitVec.toNat_inj, toNat_field4_fin8, reg8]
  split
  · rw [Except.ok.injEq, Fin.ext_iff, eq_comm]
  · exact iff_of_false nofun (by omega)

theorem regF_field4 (d : FReg) : regF (field4 d) = .ok d := regF_eq_ok_iff.2 rfl

theorem reg8_field4 (d : Fin 8) : reg8 (field4 d) = .ok d := reg8_eq_ok_iff.2 rfl

/-! ## The formats (R172, R175) -/

theorem bind_eq_ok_iff {ε σ τ : Type} {q : Except ε σ} {f : σ → Except ε τ} {r : τ} :
    (q >>= f) = .ok r ↔ ∃ v, q = .ok v ∧ f v = .ok r := by
  cases q with
  | ok v => exact ⟨fun h => ⟨v, rfl, h⟩, by rintro ⟨_, ⟨⟩, h⟩; exact h⟩
  | error e => exact iff_of_false nofun nofun

theorem ite_error_eq_ok_iff {ε σ : Type} {c : Prop} [Decidable c] {e : ε} {q : Except ε σ} {v : σ} :
    (if c then .error e else q) = .ok v ↔ ¬c ∧ q = .ok v := by
  by_cases h : c <;> simp [h]

theorem ite_ok_eq_ok_iff {ε σ : Type} {c : Prop} [Decidable c] {e : ε} {u v : σ} :
    (if c then (return u) else .error e : Except ε σ) = .ok v ↔ c ∧ u = v := by
  by_cases h : c <;> simp [h, pure, Except.pure]

theorem pure_eq_ok_iff {ε σ : Type} {u v : σ} : (pure u : Except ε σ) = .ok v ↔ u = v := by simp [pure, Except.pure]

section
variable {x : Fields} {i : Instr} {α β γ : Type} {fd : BitVec 4 → Except IllegalReason α} {fa : BitVec 4 → Except IllegalReason β}
  {fb : BitVec 4 → Except IllegalReason γ}

theorem formatN_eq_ok_iff {j : Instr} : formatN x j = .ok i ↔ (x.d = 0 ∧ x.a = 0 ∧ x.b = 0 ∧ x.c = 0) ∧ j = i := by
  simp only [formatN, ite_error_eq_ok_iff, Except.ok.injEq, ne_eq, not_or, not_not]

theorem formatD_eq_ok_iff {mk : α → Instr} : formatD x fd mk = .ok i ↔
    (x.a = 0 ∧ x.b = 0 ∧ x.c = 0) ∧ ∃ d, fd x.d = .ok d ∧ mk d = i := by
  simp only [formatD, ite_error_eq_ok_iff, bind_eq_ok_iff, pure_eq_ok_iff, ne_eq, not_or, not_not]

theorem formatA1_eq_ok_iff {mk : β → Instr} : formatA1 x fa mk = .ok i ↔
    (x.d = 0 ∧ x.b = 0 ∧ x.c = 0) ∧ ∃ a, fa x.a = .ok a ∧ mk a = i := by
  simp only [formatA1, ite_error_eq_ok_iff, bind_eq_ok_iff, pure_eq_ok_iff, ne_eq, not_or, not_not]

theorem formatA2_eq_ok_iff {mk : β → γ → Instr} : formatA2 x fa fb mk = .ok i ↔
    (x.d = 0 ∧ x.c = 0) ∧ ∃ a, fa x.a = .ok a ∧ ∃ b, fb x.b = .ok b ∧ mk a b = i := by
  simp only [formatA2, ite_error_eq_ok_iff, bind_eq_ok_iff, pure_eq_ok_iff, ne_eq, not_or, not_not]

theorem formatDA_eq_ok_iff {mk : α → β → Instr} : formatDA x fd fa mk = .ok i ↔
    (x.b = 0 ∧ x.c = 0) ∧ ∃ d, fd x.d = .ok d ∧ ∃ a, fa x.a = .ok a ∧ mk d a = i := by
  simp only [formatDA, ite_error_eq_ok_iff, bind_eq_ok_iff, pure_eq_ok_iff, ne_eq, not_or, not_not]

theorem formatDAB_eq_ok_iff {mk : α → β → γ → Instr} : formatDAB x fd fa fb mk = .ok i ↔
    x.c = 0 ∧ ∃ d, fd x.d = .ok d ∧ ∃ a, fa x.a = .ok a ∧ ∃ b, fb x.b = .ok b ∧ mk d a b = i := by
  simp only [formatDAB, ite_error_eq_ok_iff, bind_eq_ok_iff, pure_eq_ok_iff, ne_eq, not_not]

theorem formatDABC_eq_ok_iff {mk : PReg → FReg → FReg → FReg → Instr} : formatDABC x mk = .ok i ↔
    ∃ d, reg8 x.d = .ok d ∧ ∃ a, regF x.a = .ok a ∧ ∃ b, regF x.b = .ok b ∧ ∃ c, regF x.c = .ok c ∧ mk d a b c = i := by
  simp only [formatDABC, bind_eq_ok_iff, pure_eq_ok_iff]

/-- The count is read as an index into F is: every 4-bit value is one, and R175 is a check of its own. -/
theorem formatDABN_eq_ok_iff {mk : FReg → FReg → FReg → Count → Instr} : formatDABN x mk = .ok i ↔
    ∃ d, regF x.d = .ok d ∧ ∃ a, regF x.a = .ok a ∧ ∃ b, regF x.b = .ok b ∧ ∃ n, regF x.c = .ok n ∧
      sopCountOk x.a.toNat x.b.toNat x.c.toNat = true ∧ mk d a b n = i := by
  simp only [formatDABN, bind_eq_ok_iff, ite_ok_eq_ok_iff, regF, Except.ok.injEq, exists_eq_left']

theorem formatDAN_eq_ok_iff {mk : AReg → PReg → Count → Instr} : formatDAN x mk = .ok i ↔
    x.b = 0 ∧ ∃ d, reg8 x.d = .ok d ∧ ∃ a, reg8 x.a = .ok a ∧ ∃ n, regF x.c = .ok n ∧
      batchCountOk x.d.toNat x.a.toNat x.c.toNat = true ∧ mk d a n = i := by
  simp only [formatDAN, ite_error_eq_ok_iff, bind_eq_ok_iff, ite_ok_eq_ok_iff, ne_eq, not_not, regF, Except.ok.injEq,
    exists_eq_left']

end

/-! ## Decoding the fields of a command (R183, R185) -/

section
variable {m n k : Nat} {fd : BitVec 4 → Except IllegalReason (Fin m)} {fa : BitVec 4 → Except IllegalReason (Fin n)}
  {fb : BitVec 4 → Except IllegalReason (Fin k)}

theorem decodeFields_fields_D {mk : Fin m → Instr} {d : Fin m} (hd : fd (mk d).fields.d = .ok d)
    (hunused : (mk d).fields.a = 0 ∧ (mk d).fields.b = 0 ∧ (mk d).fields.c = 0 := by exact ⟨rfl, rfl, rfl⟩)
    (harm : decodeFields (mk d).fields = formatD (mk d).fields fd mk := by rfl) :
    decodeFields (mk d).fields = .ok (mk d) :=
  harm.trans (formatD_eq_ok_iff.2 ⟨hunused, d, hd, rfl⟩)

theorem decodeFields_fields_A1 {mk : Fin n → Instr} {a : Fin n} (ha : fa (mk a).fields.a = .ok a)
    (hunused : (mk a).fields.d = 0 ∧ (mk a).fields.b = 0 ∧ (mk a).fields.c = 0 := by exact ⟨rfl, rfl, rfl⟩)
    (harm : decodeFields (mk a).fields = formatA1 (mk a).fields fa mk := by rfl) :
    decodeFields (mk a).fields = .ok (mk a) :=
  harm.trans (formatA1_eq_ok_iff.2 ⟨hunused, a, ha, rfl⟩)

theorem decodeFields_fields_A2 {mk : Fin n → Fin k → Instr} {a : Fin n} {b : Fin k} (ha : fa (mk a b).fields.a = .ok a)
    (hb : fb (mk a b).fields.b = .ok b)
    (hunused : (mk a b).fields.d = 0 ∧ (mk a b).fields.c = 0 := by exact ⟨rfl, rfl⟩)
    (harm : decodeFields (mk a b).fields = formatA2 (mk a b).fields fa fb mk := by rfl) :
    decodeFields (mk a b).fields = .ok (mk a b) :=
  harm.trans (formatA2_eq_ok_iff.2 ⟨hunused, a, ha, b, hb, rfl⟩)

theorem decodeFields_fields_DA {mk : Fin m → Fin n → Instr} {d : Fin m} {a : Fin n} (hd : fd (mk d a).fields.d = .ok d)
    (ha : fa (mk d a).fields.a = .ok a)
    (hunused : (mk d a).fields.b = 0 ∧ (mk d a).fields.c = 0 := by exact ⟨rfl, rfl⟩)
    (harm : decodeFields (mk d a).fields = formatDA (mk d a).fields fd fa mk := by rfl) :
    decodeFields (mk d a).fields = .ok (mk d a) :=
  harm.trans (formatDA_eq_ok_iff.2 ⟨hunused, d, hd, a, ha, rfl⟩)

theorem decodeFields_fields_DAB {mk : Fin m → Fin n → Fin k → Instr} {d : Fin m} {a : Fin n} {b : Fin k}
    (hd : fd (mk d a b).fields.d = .ok d) (ha : fa (mk d a b).fields.a = .ok a) (hb : fb (mk d a b).fields.b = .ok b)
    (hunused : (mk d a b).fields.c = 0 := by rfl)
    (harm : decodeFields (mk d a b).fields = formatDAB (mk d a b).fields fd fa fb mk := by rfl) :
    decodeFields (mk d a b).fields = .ok (mk d a b) :=
  harm.trans (formatDAB_eq_ok_iff.2 ⟨hunused, d, hd, a, ha, b, hb, rfl⟩)

end

theorem decodeFields_fields {i : Instr} (h : i.wellFormed = true) : decodeFields i.fields = .ok i := by
  cases i with
  | nop => rfl
  | fpZero | fpOne | fpFrombytes => exact decodeFields_fields_D (regF_field4 _)
  | fp2Zero | fp2One | scZero | scOne | scFrombytes | scFromwide | paIdentity | paGen | paFromcomp | paFromcompu | paFromuncomp
    | paFromuncompu | ppIdentity | ppGen => exact decodeFields_fields_D (reg8_field4 _)
  | fpIszero | fpLexl | fpTobytes => exact decodeFields_fields_A1 (regF_field4 _)
  | fp2Iszero | scIszero | scTobytes | paIsid | paOncurve | paTorsionfree | paTocomp | paTouncomp | ppIsid | ppOncurve =>
    exact decodeFields_fields_A1 (reg8_field4 _)
  | fpEq => exact decodeFields_fields_A2 (regF_field4 _) (regF_field4 _)
  | fp2Eq | scEq | paEq | ppEq => exact decodeFields_fields_A2 (reg8_field4 _) (reg8_field4 _)
  | fpMov | fpNeg | fpSqr | fpInv | fpSqrt => exact decodeFields_fields_DA (regF_field4 _) (regF_field4 _)
  | fp2C0 | fp2C1 | paGetx | paGety | ppGetx | ppGety | ppGetz => exact decodeFields_fields_DA (regF_field4 _) (reg8_field4 _)
  | fp2Mov | fp2Neg | fp2Sqr | fp2Conj | fp2Frob | fp2Mulnr | fp2Inv | fp2Sqrt | scMov | scNeg | scSqr | scInv | scSqrt | paMov
    | paNeg | paEndo | paFromproj | ppMov | ppFromaff | ppNeg | ppDbl | ppClearcof =>
    exact decodeFields_fields_DA (reg8_field4 _) (reg8_field4 _)
  | fpAdd | fpSub | fpMul => exact decodeFields_fields_DAB (regF_field4 _) (regF_field4 _) (regF_field4 _)
  | fp2Pack | paSet => exact decodeFields_fields_DAB (reg8_field4 _) (regF_field4 _) (regF_field4 _)
  | fp2Pow => exact decodeFields_fields_DAB (reg8_field4 _) (reg8_field4 _) (regF_field4 _)
  | fp2Add | fp2Sub | fp2Mul | scAdd | scSub | scMul | scPow | paAdd | paMul | ppAdd | ppSub | ppAddm | ppMul =>
    exact decodeFields_fields_DAB (reg8_field4 _) (reg8_field4 _) (reg8_field4 _)
  | ppSet d a b c =>
    exact formatDABC_eq_ok_iff.2 ⟨d, reg8_field4 d, a, regF_field4 a, b, regF_field4 b, c, regF_field4 c, rfl⟩
  | fpSop d a b n =>
    change formatDABN (Instr.fpSop d a b n).fields .fpSop = _
    refine formatDABN_eq_ok_iff.2 ⟨d, regF_field4 d, a, regF_field4 a, b, regF_field4 b, n, regF_field4 n, ?_, rfl⟩
    simpa only [Instr.fields, Instr.wellFormed, toNat_field4_fin16] using h
  | ppBatchnorm d a n =>
    change formatDAN (Instr.ppBatchnorm d a n).fields .ppBatchnorm = _
    refine formatDAN_eq_ok_iff.2 ⟨rfl, d, reg8_field4 d, a, reg8_field4 a, n, regF_field4 n, ?_, rfl⟩
    simpa only [Instr.fields, Instr.wellFormed, toNat_field4_fin16, toNat_field4_fin8] using h

/-- Settles O1: a word has the fields that were packed, and each field reads as the operand it was written from. -/
theorem decodeOfEncodeIsTheCommand : Obligations.DecodeOfEncodeIsTheCommand := by
  intro i h
  rw [decode, encode, fieldsOf_pack, decodeFields_fields h]

end Sys2Proof
end

section
/-! The opcode map of 30_encoding.md R178 against the decoder and the encoder: a row's mask and match word are those of its columns, the
decoder's arm at the row's opcode accepts the fields that the columns allow and no others, and so a word decodes to a command exactly
when it is the command's word. -/

namespace Sys2Proof

open Spec

/-! ## The columns of a row (R172, R174, R176) -/

/-- The fields that the row's format does not use are 0 (R176). -/
def OpcodeRow.unusedZero (row : OpcodeRow) (x : Fields) : Prop :=
  (row.d = .unused → x.d = 0) ∧ (row.a = .unused → x.a = 0) ∧ (row.b = .unused → x.b = 0) ∧ (row.c = .unused → x.c = 0)

/-- `f` reads the field of a used column of kind k: it inverts `field4`, and it answers on the column's legal values. -/
structure Reads (k : OperandKind) {n : Nat} (f : BitVec 4 → Except IllegalReason (Fin n)) : Prop where
  used : k ≠ .unused
  eq_ok_iff : ∀ {v : BitVec 4} {d : Fin n}, f v = .ok d ↔ field4 d = v
  legal_iff : ∀ {v : BitVec 4}, fieldLegal k v ↔ ∃ d, f v = .ok d

theorem readsF : Reads (.reg .F) regF where
  used := nofun
  eq_ok_iff := regF_eq_ok_iff
  legal_iff := iff_of_true trivial ⟨_, rfl⟩

theorem readsCount : Reads .count regF where
  used := nofun
  eq_ok_iff := regF_eq_ok_iff
  legal_iff := iff_of_true trivial ⟨_, rfl⟩

theorem fieldLegal_reg_iff {f : RegFile} (h : f ≠ .F) {v : BitVec 4} : fieldLegal (.reg f) v ↔ v.toNat < 8 := by
  cases f with
  | F => exact absurd rfl h
  | _ => rfl

theorem reads8 {f : RegFile} (h : f ≠ .F := by decide) : Reads (.reg f) reg8 where
  used := nofun
  eq_ok_iff := reg8_eq_ok_iff
  legal_iff := by
    intro v
    rw [fieldLegal_reg_iff h, reg8]
    split <;> simp [*]

theorem fieldLegal_unused (v : BitVec 4) : fieldLegal .unused v := trivial

/-! ## The decoder's arm at the opcode of a row (R175, R178, R183) -/

/-- The decoder at the row's opcode: what it answers is a legal command whose fields the word has, and it answers exactly on the fields
that the row's columns and checks allow. -/
def OpcodeRow.Decoded (row : OpcodeRow) : Prop :=
  ∀ x : Fields, x.op = BitVec.ofNat 8 row.op → x.z = 0 →
    (∀ i, decodeFields x = .ok i → i.fields = x ∧ i.wellFormed = true) ∧
    (row.unusedZero x ∧ rowLegal row x ↔ ∃ i, decodeFields x = .ok i)

section
variable {kd ka kb : OperandKind} {m n k : Nat} {fd : BitVec 4 → Except IllegalReason (Fin m)}
  {fa : BitVec 4 → Except IllegalReason (Fin n)} {fb : BitVec 4 → Except IllegalReason (Fin k)} {name : String} {op : Nat}
  {pat mask : Word}

theorem decoded_D (hd : Reads kd fd) (mk : Fin m → Instr)
    (hfields : ∀ d, (mk d).fields = ⟨BitVec.ofNat 8 op, field4 d, 0, 0, 0, 0⟩ ∧ (mk d).wellFormed = true := by
      intros; exact ⟨rfl, rfl⟩)
    (harm : ∀ x : Fields, x.op = BitVec.ofNat 8 op → x.z = 0 → decodeFields x = formatD x fd mk := by rintro ⟨⟩ rfl rfl; rfl)
    (hop : op ≠ 0x10 ∧ op ≠ 0x92 := by decide) :
    OpcodeRow.Decoded ⟨name, op, kd, .unused, .unused, .unused, pat, mask⟩ := by
  intro x hxop hz
  rw [harm x hxop hz]
  simp only [formatD_eq_ok_iff]
  refine ⟨?_, ?_⟩
  · rintro _ ⟨⟨ha, hb, hc⟩, d, hxd, rfl⟩
    obtain ⟨⟩ := x
    simp_all [hd.eq_ok_iff]
  · simp [OpcodeRow.unusedZero, rowLegal, hop, fieldLegal_unused, hd.used, hd.legal_iff]

theorem decoded_A1 (ha : Reads ka fa) (mk : Fin n → Instr)
    (hfields : ∀ a, (mk a).fields = ⟨BitVec.ofNat 8 op, 0, field4 a, 0, 0, 0⟩ ∧ (mk a).wellFormed = true := by
      intros; exact ⟨rfl, rfl⟩)
    (harm : ∀ x : Fields, x.op = BitVec.ofNat 8 op → x.z = 0 → decodeFields x = formatA1 x fa mk := by rintro ⟨⟩ rfl rfl; rfl)
    (hop : op ≠ 0x10 ∧ op ≠ 0x92 := by decide) :
    OpcodeRow.Decoded ⟨name, op, .unused, ka, .unused, .unused, pat, mask⟩ := by
  intro x hxop hz
  rw [harm x hxop hz]
  simp only [formatA1_eq_ok_iff]
  refine ⟨?_, ?_⟩
  · rintro _ ⟨⟨hd, hb, hc⟩, a, hxa, rfl⟩
    obtain ⟨⟩ := x
    simp_all [ha.eq_ok_iff]
  · simp [OpcodeRow.unusedZero, rowLegal, hop, fieldLegal_unused, ha.used, ha.legal_iff]

theorem decoded_A2 (ha : Reads ka fa) (hb : Reads kb fb) (mk : Fin n → Fin k → Instr)
    (hfields : ∀ a b, (mk a b).fields = ⟨BitVec.ofNat 8 op, 0, field4 a, field4 b, 0, 0⟩ ∧ (mk a b).wellFormed = true := by
      intros; exact ⟨rfl, rfl⟩)
    (harm : ∀ x : Fields, x.op = BitVec.ofNat 8 op → x.z = 0 → decodeFields x = formatA2 x fa fb mk := by rintro ⟨⟩ rfl rfl; rfl)
    (hop : op ≠ 0x10 ∧ op ≠ 0x92 := by decide) :
    OpcodeRow.Decoded ⟨name, op, .unused, ka, kb, .unused, pat, mask⟩ := by
  intro x hxop hz
  rw [harm x hxop hz]
  simp only [formatA2_eq_ok_iff]
  refine ⟨?_, ?_⟩
  · rintro _ ⟨⟨hd, hc⟩, a, hxa, b, hxb, rfl⟩
    obtain ⟨⟩ := x
    simp_all [ha.eq_ok_iff, hb.eq_ok_iff]
  · simp [OpcodeRow.unusedZero, rowLegal, hop, fieldLegal_unused, ha.used, ha.legal_iff, hb.used, hb.legal_iff]

theorem decoded_DA (hd : Reads kd fd) (ha : Reads ka fa) (mk : Fin m → Fin n → Instr)
    (hfields : ∀ d a, (mk d a).fields = ⟨BitVec.ofNat 8 op, field4 d, field4 a, 0, 0, 0⟩ ∧ (mk d a).wellFormed = true := by
      intros; exact ⟨rfl, rfl⟩)
    (harm : ∀ x : Fields, x.op = BitVec.ofNat 8 op → x.z = 0 → decodeFields x = formatDA x fd fa mk := by rintro ⟨⟩ rfl rfl; rfl)
    (hop : op ≠ 0x10 ∧ op ≠ 0x92 := by decide) :
    OpcodeRow.Decoded ⟨name, op, kd, ka, .unused, .unused, pat, mask⟩ := by
  intro x hxop hz
  rw [harm x hxop hz]
  simp only [formatDA_eq_ok_iff]
  refine ⟨?_, ?_⟩
  · rintro _ ⟨⟨hb, hc⟩, d, hxd, a, hxa, rfl⟩
    obtain ⟨⟩ := x
    simp_all [hd.eq_ok_iff, ha.eq_ok_iff]
  · simp [OpcodeRow.unusedZero, rowLegal, hop, fieldLegal_unused, hd.used, hd.legal_iff, ha.used, ha.legal_iff]

theorem decoded_DAB (hd : Reads kd fd) (ha : Reads ka fa) (hb : Reads kb fb) (mk : Fin m → Fin n → Fin k → Instr)
    (hfields : ∀ d a b, (mk d a b).fields = ⟨BitVec.ofNat 8 op, field4 d, field4 a, field4 b, 0, 0⟩ ∧
      (mk d a b).wellFormed = true := by intros; exact ⟨rfl, rfl⟩)
    (harm : ∀ x : Fields, x.op = BitVec.ofNat 8 op → x.z = 0 → decodeFields x = formatDAB x fd fa fb mk := by
      rintro ⟨⟩ rfl rfl; rfl)
    (hop : op ≠ 0x10 ∧ op ≠ 0x92 := by decide) :
    OpcodeRow.Decoded ⟨name, op, kd, ka, kb, .unused, pat, mask⟩ := by
  intro x hxop hz
  rw [harm x hxop hz]
  simp only [formatDAB_eq_ok_iff]
  refine ⟨?_, ?_⟩
  · rintro _ ⟨hc, d, hxd, a, hxa, b, hxb, rfl⟩
    obtain ⟨⟩ := x
    simp_all [hd.eq_ok_iff, ha.eq_ok_iff, hb.eq_ok_iff]
  · simp [OpcodeRow.unusedZero, rowLegal, hop, fieldLegal_unused, hd.used, hd.legal_iff, ha.used, ha.legal_iff, hb.used, hb.legal_iff]

theorem decoded_nop : OpcodeRow.Decoded ⟨name, 0x00, .unused, .unused, .unused, .unused, pat, mask⟩ := by
  rintro ⟨op, d, a, b, c, z⟩ rfl rfl
  change (∀ i, formatN _ .nop = .ok i → _) ∧ (_ ↔ ∃ i, formatN _ .nop = .ok i)
  simp only [formatN_eq_ok_iff]
  refine ⟨?_, ?_⟩
  · rintro _ ⟨⟨rfl, rfl, rfl, rfl⟩, rfl⟩
    exact ⟨rfl, rfl⟩
  · simp [OpcodeRow.unusedZero, rowLegal, fieldLegal_unused]

theorem decoded_ppSet : OpcodeRow.Decoded ⟨name, 0x83, .reg .P, .reg .F, .reg .F, .reg .F, pat, mask⟩ := by
  rintro ⟨op, d, a, b, c, z⟩ rfl rfl
  change (∀ i, formatDABC _ .ppSet = .ok i → _) ∧ (_ ↔ ∃ i, formatDABC _ .ppSet = .ok i)
  simp only [formatDABC_eq_ok_iff]
  refine ⟨?_, ?_⟩
  · rintro _ ⟨d, hd, a, ha, b, hb, c, hc, rfl⟩
    simp_all [regF_eq_ok_iff, reg8_eq_ok_iff, Instr.fields, Instr.wellFormed]
  · simp [OpcodeRow.unusedZero, rowLegal, readsF.legal_iff, (reads8 (f := .P)).legal_iff]

theorem decoded_fpSop : OpcodeRow.Decoded ⟨name, 0x10, .reg .F, .reg .F, .reg .F, .count, pat, mask⟩ := by
  rintro ⟨op, d, a, b, c, z⟩ rfl rfl
  change (∀ i, formatDABN _ .fpSop = .ok i → _) ∧ (_ ↔ ∃ i, formatDABN _ .fpSop = .ok i)
  simp only [formatDABN_eq_ok_iff]
  refine ⟨?_, ?_⟩
  · rintro _ ⟨d, hd, a, ha, b, hb, n, hn, hcount, rfl⟩
    simp only [regF_eq_ok_iff] at hd ha hb hn
    subst hd ha hb hn
    exact ⟨rfl, by simpa only [Instr.wellFormed, toNat_field4_fin16] using hcount⟩
  · simp [OpcodeRow.unusedZero, rowLegal, readsF.legal_iff, readsCount.legal_iff, sopCountOk, and_assoc]

theorem decoded_ppBatchnorm : OpcodeRow.Decoded ⟨name, 0x92, .reg .A, .reg .P, .unused, .count, pat, mask⟩ := by
  rintro ⟨op, d, a, b, c, z⟩ rfl rfl
  change (∀ i, formatDAN _ .ppBatchnorm = .ok i → _) ∧ (_ ↔ ∃ i, formatDAN _ .ppBatchnorm = .ok i)
  simp only [formatDAN_eq_ok_iff]
  refine ⟨?_, ?_⟩
  · rintro _ ⟨rfl, d, hd, a, ha, n, hn, hcount, rfl⟩
    simp only [regF_eq_ok_iff, reg8_eq_ok_iff] at hd ha hn
    subst hd ha hn
    exact ⟨rfl, by simpa only [Instr.wellFormed, toNat_field4_fin16, toNat_field4_fin8] using hcount⟩
  · simp [OpcodeRow.unusedZero, rowLegal, fieldLegal_unused, (reads8 (f := .A)).legal_iff, (reads8 (f := .P)).legal_iff,
      readsCount.legal_iff, batchCountOk, and_assoc]

end

theorem decoded_opcodeRowsSystem : ∀ row ∈ opcodeRowsSystem, row.Decoded := by
  simp only [opcodeRowsSystem, List.forall_mem_cons]
  exact ⟨decoded_nop, List.forall_mem_nil _⟩

theorem decoded_opcodeRowsFp : ∀ row ∈ opcodeRowsFp, row.Decoded := by
  simp only [opcodeRowsFp, List.forall_mem_cons]
  exact ⟨decoded_D readsF .fpZero, decoded_D readsF .fpOne, decoded_DA readsF readsF .fpMov, decoded_A1 readsF .fpIszero,
    decoded_A2 readsF readsF .fpEq, decoded_DAB readsF readsF readsF .fpAdd, decoded_DAB readsF readsF readsF .fpSub,
    decoded_DA readsF readsF .fpNeg, decoded_DAB readsF readsF readsF .fpMul, decoded_DA readsF readsF .fpSqr,
    decoded_DA readsF readsF .fpInv, decoded_DA readsF readsF .fpSqrt, decoded_A1 readsF .fpLexl, decoded_A1 readsF .fpTobytes,
    decoded_D readsF .fpFrombytes, decoded_fpSop, List.forall_mem_nil _⟩

theorem decoded_opcodeRowsFp2 : ∀ row ∈ opcodeRowsFp2, row.Decoded := by
  simp only [opcodeRowsFp2, List.forall_mem_cons]
  exact ⟨decoded_D reads8 .fp2Zero, decoded_D reads8 .fp2One, decoded_DA reads8 reads8 .fp2Mov,
    decoded_DAB reads8 readsF readsF .fp2Pack, decoded_DA readsF reads8 .fp2C0, decoded_DA readsF reads8 .fp2C1,
    decoded_A1 reads8 .fp2Iszero, decoded_A2 reads8 reads8 .fp2Eq, decoded_DAB reads8 reads8 reads8 .fp2Add,
    decoded_DAB reads8 reads8 reads8 .fp2Sub, decoded_DA reads8 reads8 .fp2Neg, decoded_DAB reads8 reads8 reads8 .fp2Mul,
    decoded_DA reads8 reads8 .fp2Sqr, decoded_DA reads8 reads8 .fp2Conj, decoded_DA reads8 reads8 .fp2Frob,
    decoded_DA reads8 reads8 .fp2Mulnr, decoded_DA reads8 reads8 .fp2Inv, decoded_DA reads8 reads8 .fp2Sqrt,
    decoded_DAB reads8 reads8 readsF .fp2Pow, List.forall_mem_nil _⟩

theorem decoded_opcodeRowsScalar : ∀ row ∈ opcodeRowsScalar, row.Decoded := by
  simp only [opcodeRowsScalar, List.forall_mem_cons]
  exact ⟨decoded_D reads8 .scZero, decoded_D reads8 .scOne, decoded_DA reads8 reads8 .scMov, decoded_A1 reads8 .scIszero,
    decoded_A2 reads8 reads8 .scEq, decoded_DAB reads8 reads8 reads8 .scAdd, decoded_DAB reads8 reads8 reads8 .scSub,
    decoded_DA reads8 reads8 .scNeg, decoded_DAB reads8 reads8 reads8 .scMul, decoded_DA reads8 reads8 .scSqr,
    decoded_DA reads8 reads8 .scInv, decoded_DA reads8 reads8 .scSqrt, decoded_DAB reads8 reads8 reads8 .scPow,
    decoded_A1 reads8 .scTobytes, decoded_D reads8 .scFrombytes, decoded_D reads8 .scFromwide, List.forall_mem_nil _⟩

theorem decoded_opcodeRowsAffine : ∀ row ∈ opcodeRowsAffine, row.Decoded := by
  simp only [opcodeRowsAffine, List.forall_mem_cons]
  exact ⟨decoded_D reads8 .paIdentity, decoded_D reads8 .paGen, decoded_DA reads8 reads8 .paMov, decoded_DAB reads8 readsF readsF .paSet,
    decoded_DA readsF reads8 .paGetx, decoded_DA readsF reads8 .paGety, decoded_A1 reads8 .paIsid, decoded_A1 reads8 .paOncurve,
    decoded_A1 reads8 .paTorsionfree, decoded_A2 reads8 reads8 .paEq, decoded_DA reads8 reads8 .paNeg, decoded_DA reads8 reads8 .paEndo,
    decoded_DA reads8 reads8 .paFromproj, decoded_DAB reads8 reads8 reads8 .paAdd, decoded_DAB reads8 reads8 reads8 .paMul,
    decoded_A1 reads8 .paTocomp, decoded_A1 reads8 .paTouncomp, decoded_D reads8 .paFromcomp, decoded_D reads8 .paFromcompu,
    decoded_D reads8 .paFromuncomp, decoded_D reads8 .paFromuncompu, List.forall_mem_nil _⟩

theorem decoded_opcodeRowsProjective : ∀ row ∈ opcodeRowsProjective, row.Decoded := by
  simp only [opcodeRowsProjective, List.forall_mem_cons]
  exact ⟨decoded_D reads8 .ppIdentity, decoded_D reads8 .ppGen, decoded_DA reads8 reads8 .ppMov, decoded_ppSet,
    decoded_DA readsF reads8 .ppGetx, decoded_DA readsF reads8 .ppGety, decoded_DA readsF reads8 .ppGetz,
    decoded_DA reads8 reads8 .ppFromaff, decoded_A1 reads8 .ppIsid, decoded_A1 reads8 .ppOncurve, decoded_A2 reads8 reads8 .ppEq,
    decoded_DA reads8 reads8 .ppNeg, decoded_DA reads8 reads8 .ppDbl, decoded_DAB reads8 reads8 reads8 .ppAdd,
    decoded_DAB reads8 reads8 reads8 .ppSub, decoded_DAB reads8 reads8 reads8 .ppAddm, decoded_DAB reads8 reads8 reads8 .ppMul,
    decoded_DA reads8 reads8 .ppClearcof, decoded_ppBatchnorm, List.forall_mem_nil _⟩

theorem decoded_of_mem : ∀ row ∈ opcodeTable, row.Decoded := by
  simp only [opcodeTable, List.forall_mem_append]
  exact ⟨⟨⟨⟨⟨decoded_opcodeRowsSystem, decoded_opcodeRowsFp⟩, decoded_opcodeRowsFp2⟩, decoded_opcodeRowsScalar⟩,
    decoded_opcodeRowsAffine⟩, decoded_opcodeRowsProjective⟩

/-! ## A word decodes to a command exactly when it is the command's word (R182) -/

theorem unassigned_or_mem (op : BitVec 8) : unassigned op.toNat ∨ ∃ row ∈ opcodeTable, op = BitVec.ofNat 8 row.op := by
  revert op
  unfold unassigned
  decide +kernel

/-- Every arm of the decoder but the last (the 93rd case) has an opcode outside the ranges of R181. -/
theorem decodeFields_ne_ok_of_unassigned {x : Fields} (h : unassigned x.op.toNat) (i : Instr) : decodeFields x ≠ .ok i := by
  unfold unassigned at h
  unfold decodeFields
  split
  · nofun
  · split
    case h_93 => nofun
    all_goals omega

theorem z_eq_zero_of_decodeFields {x : Fields} {i : Instr} (h : decodeFields x = .ok i) : x.z = 0 := by
  unfold decodeFields at h
  exact not_not.1 (ite_error_eq_ok_iff.1 h).1

theorem exists_row_of_decodeFields {x : Fields} {i : Instr} (h : decodeFields x = .ok i) :
    ∃ row ∈ opcodeTable, x.op = BitVec.ofNat 8 row.op :=
  (unassigned_or_mem x.op).resolve_left fun hop => decodeFields_ne_ok_of_unassigned hop i h

theorem decodeFields_eq_ok_iff {x : Fields} {i : Instr} : decodeFields x = .ok i ↔ i.fields = x ∧ i.wellFormed = true := by
  refine ⟨fun h => ?_, ?_⟩
  · obtain ⟨row, hrow, hop⟩ := exists_row_of_decodeFields h
    exact (decoded_of_mem row hrow x hop (z_eq_zero_of_decodeFields h)).1 i h
  · rintro ⟨rfl, h⟩
    exact decodeFields_fields h

theorem decode_eq_ok_iff {w : Word} {i : Instr} : decode w = .ok i ↔ encode i = w ∧ i.wellFormed = true := by
  rw [decode, decodeFields_eq_ok_iff, encode]
  exact and_congr_left' ⟨fun h => h ▸ pack_fieldsOf w, fun h => h ▸ (fieldsOf_pack _).symm⟩

theorem fields_of_decode {w : Word} {i : Instr} (h : decode w = .ok i) : i.fields = fieldsOf w := (decodeFields_eq_ok_iff.1 h).1

theorem z_fields_of_decode {w : Word} {i : Instr} (h : decode w = .ok i) : i.fields.z = 0 := by
  rw [fields_of_decode h]
  exact z_eq_zero_of_decodeFields h

/-! ## A row's mask and match word (R178) -/

/-- The bits of the mask on a field: all of an unused one, none of any other. -/
def unusedMask : OperandKind → BitVec 4
  | .unused => 0xF
  | _ => 0

/-- A row's mask has the bits of the opcode, of the unused fields and of the reserved byte; its match word is the opcode. -/
theorem mask_pattern_of_mem : ∀ row ∈ opcodeTable, row.op < 256 ∧ row.pattern = pack ⟨BitVec.ofNat 8 row.op, 0, 0, 0, 0, 0⟩ ∧
    row.mask = pack ⟨0xFF, unusedMask row.d, unusedMask row.a, unusedMask row.b, unusedMask row.c, 0xFF⟩ := by
  decide +kernel

theorem pack_and_pack (x y : Fields) :
    pack x &&& pack y = pack ⟨x.op &&& y.op, x.d &&& y.d, x.a &&& y.a, x.b &&& y.b, x.c &&& y.c, x.z &&& y.z⟩ := by
  refine BitVec.eq_of_getLsbD_eq fun i _ => ?_
  simp only [BitVec.getLsbD_and, getLsbD_pack]
  split_ifs <;> rfl

theorem pack_inj {x y : Fields} : pack x = pack y ↔ x = y :=
  ⟨fun h => by rw [← fieldsOf_pack x, h, fieldsOf_pack], congrArg pack⟩

theorem and_unusedMask_eq_zero_iff (k : OperandKind) (v : BitVec 4) : v &&& unusedMask k = 0 ↔ (k = .unused → v = 0) := by
  cases k with
  | unused => simp [unusedMask, show v &&& 15#4 = v from BitVec.and_allOnes]
  | _ => simp [unusedMask]

theorem and_mask_eq_pattern_iff {row : OpcodeRow} (hrow : row ∈ opcodeTable) (w : Word) : w &&& row.mask = row.pattern ↔
    (fieldsOf w).op = BitVec.ofNat 8 row.op ∧ row.unusedZero (fieldsOf w) ∧ (fieldsOf w).z = 0 := by
  obtain ⟨-, hpattern, hmask⟩ := mask_pattern_of_mem row hrow
  have hFF (v : BitVec 8) : v &&& 0xFF = v := BitVec.and_allOnes
  rw [hpattern, hmask, ← pack_fieldsOf w, pack_and_pack, pack_inj, fieldsOf_pack]
  simp only [Fields.mk.injEq, hFF, and_unusedMask_eq_zero_iff, OpcodeRow.unusedZero, and_assoc]

theorem op_eq_iff {row : OpcodeRow} (hrow : row ∈ opcodeTable) (op : BitVec 8) : op = BitVec.ofNat 8 row.op ↔ op.toNat = row.op := by
  rw [← BitVec.toNat_inj, BitVec.toNat_ofNat, Nat.mod_eq_of_lt (mask_pattern_of_mem row hrow).1]

/-- The columns and checks of its row allow the fields of a decoded command. -/
theorem admitted_of_decode {row : OpcodeRow} (hrow : row ∈ opcodeTable) {w : Word} {i : Instr} (h : decode w = .ok i)
    (hop : i.fields.op.toNat = row.op) : row.unusedZero i.fields ∧ rowLegal row i.fields := by
  rw [← op_eq_iff hrow, fields_of_decode h] at hop
  rw [fields_of_decode h]
  exact (decoded_of_mem row hrow _ hop (z_eq_zero_of_decodeFields h)).2.2 ⟨i, h⟩

/-- R178: the word spells the row's command and its checks pass exactly when it decodes, to a command of the row. -/
theorem spells_iff_decode {row : OpcodeRow} (hrow : row ∈ opcodeTable) (w : Word) :
    (w &&& row.mask = row.pattern ∧ rowLegal row (fieldsOf w)) ↔ ∃ i, decode w = .ok i ∧ i.fields.op.toNat = row.op := by
  rw [and_mask_eq_pattern_iff hrow]
  refine ⟨fun ⟨⟨hop, hunused, hz⟩, hlegal⟩ => ?_, fun ⟨i, hi, hop⟩ => ?_⟩
  · obtain ⟨i, hi⟩ := (decoded_of_mem row hrow _ hop hz).2.1 ⟨hunused, hlegal⟩
    exact ⟨i, hi, by rw [fields_of_decode hi, (op_eq_iff hrow _).1 hop]⟩
  · obtain ⟨hunused, hlegal⟩ := admitted_of_decode hrow hi hop
    rw [← op_eq_iff hrow] at hop
    rw [← fields_of_decode hi]
    exact ⟨⟨hop, hunused, z_fields_of_decode hi⟩, hlegal⟩

theorem exists_row_of_decode {w : Word} {i : Instr} (h : decode w = .ok i) : ∃ row ∈ opcodeTable, i.fields.op.toNat = row.op := by
  obtain ⟨row, hrow, hop⟩ := exists_row_of_decodeFields h
  exact ⟨row, hrow, by rw [fields_of_decode h, (op_eq_iff hrow _).1 hop]⟩

/-- Settles O3, from the decoder's arms and the masks, row by row. -/
theorem opcodeMapDecidesTheDecoder : Obligations.OpcodeMapDecidesTheDecoder :=
  ⟨fun w _ hrow => spells_iff_decode hrow w, fun _ _ h => exists_row_of_decode h⟩

/-! ## Illegal words (R176, R177, R181, R182) -/

theorem isIllegal_iff {w : Word} : isIllegal w = true ↔ ∀ i, decode w ≠ .ok i := by
  unfold isIllegal
  cases decode w <;> simp

theorem runWord_of_decode {w : Word} {i : Instr} (h : decode w = .ok i) (s : Machine.State) :
    Machine.runWord w s = Machine.exec i s := by rw [Machine.runWord, h]

theorem runWord_of_illegal {w : Word} (h : ∀ i, decode w ≠ .ok i) (s : Machine.State) :
    Machine.runWord w s = .next (failed s 4) := by
  unfold Machine.runWord
  cases hw : decode w with
  | ok i => exact absurd hw (h i)
  | error _ => rfl

/-- Settles O2: a word decodes to a command exactly when it is the command's word. -/
theorem encodeOfDecodeIsTheWord : Obligations.EncodeOfDecodeIsTheWord := by
  refine ⟨rfl, fun w i h => ?_, fun w s h => runWord_of_illegal h s⟩
  obtain ⟨hw, hwf⟩ := decode_eq_ok_iff.1 h
  exact ⟨hw, hwf, runWord_of_decode h⟩

/-- Settles O4: a word that decodes has the reserved byte 0, a row, and that row's match word under its mask. -/
theorem malformedWordsAreIllegal : Obligations.MalformedWordsAreIllegal := by
  refine ⟨fun w hz => isIllegal_iff.2 fun i hi => ?_, fun w row hrow hop hmask => isIllegal_iff.2 fun i hi => ?_,
    fun w hop => isIllegal_iff.2 fun i hi => ?_, fun w s h => runWord_of_illegal (isIllegal_iff.1 h) s⟩
  · exact hz (z_eq_zero_of_decodeFields hi)
  · exact hmask ((spells_iff_decode hrow w).2 ⟨i, hi, (congrArg (·.op.toNat) (fields_of_decode hi)).trans hop⟩).1
  · exact decodeFields_ne_ok_of_unassigned hop i hi

/-- Settles O5: the decoder on ten literal words. -/
theorem spelledOutWordsDecode : Obligations.SpelledOutWordsDecode := by
  unfold Obligations.SpelledOutWordsDecode
  decide

end Sys2Proof
end


section
/-! What a command may fail with (60_exceptions.md R572): of the errors, a legal command's effect is at most the one listed for it. -/

namespace Sys2Proof.Machine

open Spec

/-- The result code of an effect is 0, or the code n, which is then not 0. -/
def Effect.FailsAtMostWith (n : Nat) (e : Effect) : Prop :=
  errAfter e.code = 0 ∨ n ≠ 0 ∧ errAfter e.code = BitVec.ofNat 4 n

theorem Effect.failsAtMostWith_fail (k : ErrorKind) : (Effect.fail k).FailsAtMostWith k.code.toNat := by
  cases k <;> exact .inr ⟨by decide, rfl⟩

theorem failsAtMostWith_errorOf {i : Instr} (h : i.wellFormed = true) (fs : Files) : (effect fs i).FailsAtMostWith (errorOf i) := by
  cases i with
  | fpInv | fpFrombytes | scInv | scFrombytes =>
    simp only [effect]
    split
    · exact Effect.failsAtMostWith_fail _
    · exact .inl rfl
  | fpSqrt | fp2Inv | fp2Sqrt | scSqrt | paFromcomp | paFromcompu | paFromuncomp | paFromuncompu =>
    simp only [effect]
    exact Effect.orFail_of (Effect.failsAtMostWith_fail _) fun _ _ => .inl rfl
  | fpSop d a b n =>
    have hcount : sopCountOk a b n = true := h
    rw [effect, if_pos hcount]
    exact .inl rfl
  | ppBatchnorm d a n =>
    have hcount : batchCountOk d a n = true := h
    rw [effect, if_pos hcount]
    exact .inl rfl
  | _ => exact .inl rfl

/-- Settles O10, from the effect of the command. -/
theorem onlyTheListedCommandsFail : Obligations.OnlyTheListedCommandsFail := fun i s h =>
  ⟨_, exec_eq i s, failsAtMostWith_errorOf h s.operands⟩

end Sys2Proof.Machine
end


section
/-! The assembler of 30_encoding.md R187 to R189: a row and a line of it are found by name, a row of the map by opcode, and each field
taken from the operands is the field that the operand stands for; so an accepted line is the line of the decoded word. -/

namespace Sys2Proof.Machine

open Spec

/-! ## Finding a row (R178) -/

/-- Where the keys are distinct, a search by key finds the one element that has it. -/
theorem find?_key_eq_some_iff {α β : Type} [BEq β] [LawfulBEq β] {f : α → β} {l : List α} (h : (l.map f).Nodup) {y : β} {a : α} :
    l.find? (fun a => f a == y) = some a ↔ a ∈ l ∧ f a = y := by
  refine ⟨fun hfind => ⟨List.mem_of_find?_eq_some hfind, by simpa using List.find?_some hfind⟩, ?_⟩
  rintro ⟨ha, rfl⟩
  obtain ⟨b, hb⟩ := Option.isSome_iff_exists.1 (List.find?_isSome (p := fun b => f b == f a).2 ⟨a, ha, beq_self_eq_true (f a)⟩)
  have hkey : f b = f a := by simpa using List.find?_some hb
  rwa [List.inj_on_of_nodup_map h (List.mem_of_find?_eq_some hb) ha hkey] at hb

theorem nodup_op : (opcodeTable.map (·.op)).Nodup := by decide +kernel

theorem nodup_asmName : (opcodeTable.map asmName).Nodup := by decide +kernel

/-- The operands of a row's line, from the fields of its word (R187). -/
def rowOperands (row : OpcodeRow) (x : Fields) : List AsmOperand :=
  operandOf row.d x.d ++ operandOf row.a x.a ++ operandOf row.b x.b ++ operandOf row.c x.c

theorem lineOf_eq_some_iff {i : Instr} {l : AsmLine} : lineOf i = some l ↔
    ∃ row ∈ opcodeTable, row.op = i.fields.op.toNat ∧ ⟨asmName row, rowOperands row i.fields⟩ = l := by
  unfold lineOf
  dsimp only
  constructor
  · intro h
    split at h
    next row hrow =>
      obtain ⟨hmem, hop⟩ := (find?_key_eq_some_iff nodup_op).1 hrow
      exact ⟨row, hmem, hop, Option.some.inj h⟩
    next => cases h
  · rintro ⟨row, hmem, hop, rfl⟩
    rw [(find?_key_eq_some_iff nodup_op).2 ⟨hmem, hop⟩]
    rfl

theorem assemble_of_mem {row : OpcodeRow} (hrow : row ∈ opcodeTable) {l : AsmLine} (hname : asmName row = (expandPseudo l).mnemonic) :
    assemble l = assembleRow row (expandPseudo l).operands := by
  unfold assemble
  dsimp only
  rw [(find?_key_eq_some_iff nodup_asmName).2 ⟨hrow, hname⟩]

theorem assemble_of_forall_ne {l : AsmLine} (h : ∀ row ∈ opcodeTable, asmName row ≠ (expandPseudo l).mnemonic) :
    assemble l = .error .unknownMnemonic := by
  unfold assemble
  dsimp only
  rw [List.find?_eq_none.2 fun row hrow => by simpa using h row hrow]

/-! ## Pseudo-instructions (R189) -/

theorem asmName_not_pseudo : ∀ row ∈ opcodeTable, asmName row ∉
    [ "fp.dbl".toList, "fp2.dbl".toList, "sc.dbl".toList, "pp.inf".toList, "pa.inf".toList] := by decide +kernel

/-- The line of a row is no pseudo-instruction. -/
theorem expandPseudo_asmName {row : OpcodeRow} (hrow : row ∈ opcodeTable) (ops : List AsmOperand) :
    expandPseudo ⟨asmName row, ops⟩ = ⟨asmName row, ops⟩ := by
  have h := asmName_not_pseudo row hrow
  simp only [List.mem_cons, List.not_mem_nil, or_false, not_or] at h
  obtain ⟨h1, h2, h3, h4, h5⟩ := h
  unfold expandPseudo
  split <;> simp only [h1, h2, h3, h4, h5, if_false]

theorem assemble_of_asmName {row : OpcodeRow} {name : List Char} (hrow : row ∈ opcodeTable) (hname : asmName row = name)
    (ops : List AsmOperand) : assemble ⟨name, ops⟩ = assembleRow row ops := by
  subst hname
  rw [assemble_of_mem hrow] <;> rw [expandPseudo_asmName hrow]

theorem assemble_congr {l l' : AsmLine} (h : expandPseudo l = expandPseudo l') : assemble l = assemble l' := by
  unfold assemble
  rw [h]

/-! ## The word of a line (R185, R188) -/

theorem field4_eq_iff {n : Nat} (h : n < 16) (v : BitVec 4) : field4 n = v ↔ n = v.toNat := by
  rw [← BitVec.toNat_inj, toNat_field4 h]

/-- A field is taken exactly from the operand it stands for, and an unused field is 0. -/
theorem takeField_eq_ok_iff {k : OperandKind} {ops rest : List AsmOperand} {v : BitVec 4} :
    takeField k ops = .ok (v, rest) ↔ ops = operandOf k v ++ rest ∧ (k = .unused → v = 0) := by
  cases k with
  | unused =>
    simp only [takeField, operandOf, Except.ok.injEq, Prod.mk.injEq, List.nil_append, forall_const]
    rw [and_comm, eq_comm (a := v)]
  | reg f =>
    rcases ops with _ | ⟨⟨g, n⟩ | n, ops⟩
    · simp [takeField, operandOf]
    · by_cases hfile : g = f
      · by_cases hn : n < 16
        · simp [takeField, operandOf, hfile, hn, field4_eq_iff hn]
        · simp [takeField, operandOf, hfile, hn]
          omega
      · simp [takeField, operandOf, Ne.symm hfile, hfile]
    · simp [takeField, operandOf]
  | count =>
    rcases ops with _ | ⟨⟨g, n⟩ | n, ops⟩
    · simp [takeField, operandOf]
    · simp [takeField, operandOf]
    · by_cases hn : n < 16
      · simp [takeField, operandOf, hn, field4_eq_iff hn]
      · simp [takeField, operandOf, hn]
        omega

/-- For a row of the map the word of a line decodes, and the line's operands are those of the decoded command. -/
theorem assembleRow_eq_ok_iff {row : OpcodeRow} (hrow : row ∈ opcodeTable) {ops : List AsmOperand} {w : Word} :
    assembleRow row ops = .ok w ↔ ∃ i, decode w = .ok i ∧ i.fields.op.toNat = row.op ∧ ops = rowOperands row i.fields := by
  unfold assembleRow
  simp only [bind_eq_ok_iff, Prod.exists, takeField_eq_ok_iff]
  constructor
  · rintro ⟨d, _, ⟨rfl, -⟩, a, _, ⟨rfl, -⟩, b, _, ⟨rfl, -⟩, c, rest, ⟨rfl, -⟩, h⟩
    obtain ⟨hrest, h⟩ := ite_error_eq_ok_iff.1 h
    rw [not_not] at hrest
    subst hrest
    generalize hpack : pack _ = w' at h
    cases hi : decode w' with
    | error e =>
      rw [hi] at h
      cases h
    | ok i =>
      rw [hi] at h
      cases h
      have hfields := fields_of_decode hi
      rw [← hpack, fieldsOf_pack] at hfields
      refine ⟨i, hi, ?_, ?_⟩
      · rw [hfields, ← op_eq_iff hrow]
      · rw [hfields]
        simp [rowOperands]
  · rintro ⟨i, hi, hop, rfl⟩
    obtain ⟨⟨hd, ha, hb, hc⟩, -⟩ := admitted_of_decode hrow hi hop
    have hpack : pack ⟨BitVec.ofNat 8 row.op, i.fields.d, i.fields.a, i.fields.b, i.fields.c, 0⟩ = w := by
      rw [← (op_eq_iff hrow _).2 hop, ← z_fields_of_decode hi, fields_of_decode hi, pack_fieldsOf]
    refine ⟨_, _, ⟨?_, hd⟩, _, _, ⟨rfl, ha⟩, _, _, ⟨rfl, hb⟩, _, [], ⟨rfl, hc⟩, ?_⟩
    · simp [rowOperands]
    · rw [hpack, if_neg (by simp), hi]

theorem assemble_eq_ok_iff {l : AsmLine} {w : Word} : assemble l = .ok w ↔
    ∃ i, decode w = .ok i ∧ lineOf i = some (expandPseudo l) := by
  constructor
  · intro h
    by_cases hname : ∀ row ∈ opcodeTable, asmName row ≠ (expandPseudo l).mnemonic
    · rw [assemble_of_forall_ne hname] at h
      cases h
    · push Not at hname
      obtain ⟨row, hrow, hname⟩ := hname
      rw [assemble_of_mem hrow hname, assembleRow_eq_ok_iff hrow] at h
      obtain ⟨i, hi, hop, hops⟩ := h
      exact ⟨i, hi, lineOf_eq_some_iff.2 ⟨row, hrow, hop.symm, by rw [hname, ← hops]⟩⟩
  · rintro ⟨i, hi, hline⟩
    obtain ⟨row, hrow, hop, hl⟩ := lineOf_eq_some_iff.1 hline
    rw [assemble_of_mem hrow (congrArg AsmLine.mnemonic hl), assembleRow_eq_ok_iff hrow]
    exact ⟨i, hi, hop.symm, (congrArg AsmLine.operands hl).symm⟩

theorem exists_lineOf {w : Word} {i : Instr} (h : decode w = .ok i) : ∃ l, lineOf i = some l ∧ assemble l = .ok w := by
  obtain ⟨row, hrow, hop⟩ := exists_row_of_decode h
  have hline : lineOf i = some ⟨asmName row, rowOperands row i.fields⟩ := lineOf_eq_some_iff.2 ⟨row, hrow, hop.symm, rfl⟩
  exact ⟨_, hline, assemble_eq_ok_iff.2 ⟨i, h, by rw [hline, expandPseudo_asmName hrow]⟩⟩

/-! ## The operands of an accepted line (R174, R175, R188) -/

/-- A count stands in column c alone, of the two commands that R175 checks. -/
theorem count_columns : ∀ row ∈ opcodeTable, row.d ≠ .count ∧ row.a ≠ .count ∧ row.b ≠ .count ∧
    (row.c = .count → row.op = 0x10 ∨ row.op = 0x92) := by decide +kernel

theorem fits_operandOf {k : OperandKind} {v : BitVec 4} (hlegal : fieldLegal k v) (hcount : k = .count → 1 ≤ v.toNat) :
    List.Forall₂ fits ([k].filter (· ≠ .unused)) (operandOf k v) := by
  cases k with
  | unused => exact .nil
  | count => exact .cons ⟨hcount rfl, Nat.le_of_lt_succ v.isLt⟩ .nil
  | reg f =>
    refine .cons ⟨rfl, ?_⟩ .nil
    split
    · exact v.isLt
    next hf => exact (fieldLegal_reg_iff hf).1 hlegal

theorem one_le_count {row : OpcodeRow} (hrow : row ∈ opcodeTable) {x : Fields} (h : rowLegal row x) (hc : row.c = .count) :
    1 ≤ x.c.toNat := by
  obtain ⟨-, -, -, -, hsop, hbatch⟩ := h
  obtain ⟨-, -, -, hop⟩ := count_columns row hrow
  rcases hop hc with hop | hop
  · exact (hsop hop).1
  · exact (hbatch hop).1

theorem fits_rowOperands {row : OpcodeRow} (hrow : row ∈ opcodeTable) {x : Fields} (h : rowLegal row x) :
    List.Forall₂ fits ([row.d, row.a, row.b, row.c].filter (· ≠ .unused)) (rowOperands row x) := by
  have hc := one_le_count hrow h
  obtain ⟨hdk, hak, hbk, -⟩ := count_columns row hrow
  obtain ⟨hd, ha, hb, hc', -⟩ := h
  change List.Forall₂ fits (([row.d] ++ [row.a] ++ [row.b] ++ [row.c]).filter (· ≠ .unused)) _
  simp only [List.filter_append]
  exact List.rel_append (List.rel_append (List.rel_append (fits_operandOf hd (absurd · hdk)) (fits_operandOf ha (absurd · hak)))
    (fits_operandOf hb (absurd · hbk))) (fits_operandOf hc' hc)

theorem fits_of_assembleRow {row : OpcodeRow} (hrow : row ∈ opcodeTable) {ops : List AsmOperand} {w : Word}
    (h : assembleRow row ops = .ok w) : List.Forall₂ fits ([row.d, row.a, row.b, row.c].filter (· ≠ .unused)) ops := by
  obtain ⟨i, hi, hop, rfl⟩ := (assembleRow_eq_ok_iff hrow).1 h
  exact fits_rowOperands hrow (admitted_of_decode hrow hi hop).2

/-! ## Three rows and the pseudo-instructions by name (R188, R189) -/

theorem assemble_fpMov (ops : List AsmOperand) : assemble ⟨"fp.mov".toList, ops⟩ =
    assembleRow ⟨"FP.MOV", 0x03, .reg .F, .reg .F, .unused, .unused, 0x03000000#32, 0xFF00FFFF#32⟩ ops :=
  assemble_of_asmName (by decide +kernel) (by decide +kernel) ops

theorem fits_of_assemble_scZero {ops : List AsmOperand} {w : Word} (h : assemble ⟨"sc.zero".toList, ops⟩ = .ok w) :
    List.Forall₂ fits [.reg .S] ops := by
  rw [assemble_of_asmName (row := ⟨"SC.ZERO", 0x40, .reg .S, .unused, .unused, .unused, 0x40000000#32, 0xFF0FFFFF#32⟩)
    (by decide +kernel) (by decide +kernel)] at h
  exact fits_of_assembleRow (by decide +kernel) h

theorem fits_of_assemble_ppBatchnorm {ops : List AsmOperand} {w : Word} (h : assemble ⟨"pp.batchnorm".toList, ops⟩ = .ok w) :
    List.Forall₂ fits [.reg .A, .reg .P, .count] ops := by
  rw [assemble_of_asmName (row := ⟨"PP.BATCHNORM", 0x92, .reg .A, .reg .P, .unused, .count, 0x92000000#32, 0xFF00F0FF#32⟩)
    (by decide +kernel) (by decide +kernel)] at h
  exact fits_of_assembleRow (by decide +kernel) h

theorem assemble_pseudo (d a : AsmOperand) : assemble ⟨"fp.dbl".toList, [d, a]⟩ = assemble ⟨"fp.add".toList, [d, a, a]⟩ ∧
    assemble ⟨"fp2.dbl".toList, [d, a]⟩ = assemble ⟨"fp2.add".toList, [d, a, a]⟩ ∧
    assemble ⟨"sc.dbl".toList, [d, a]⟩ = assemble ⟨"sc.add".toList, [d, a, a]⟩ ∧
    assemble ⟨"pp.inf".toList, [d]⟩ = assemble ⟨"pp.identity".toList, [d]⟩ ∧
    assemble ⟨"pa.inf".toList, [d]⟩ = assemble ⟨"pa.identity".toList, [d]⟩ := by
  refine ⟨assemble_congr ?_, assemble_congr ?_, assemble_congr ?_, assemble_congr ?_, assemble_congr ?_⟩ <;> simp [expandPseudo]

/-- Settles O6: an accepted line is the line of the decoded word, and its operands are those that the row's columns allow. -/
theorem assemblerWritesExactlyTheLegalWords : Obligations.AssemblerWritesExactlyTheLegalWords := by
  refine ⟨fun l w => ?_, fun i h => exists_lineOf (decode_eq_ok_iff.2 ⟨rfl, h⟩), fun l w h => ?_, fun l => assemble_of_forall_ne,
    fun f n m hf => ?_, fun n m hn => ?_, fun n w hn h => ?_, fun d a w h => ?_, assemble_pseudo⟩
  · rw [assemble_eq_ok_iff]
    refine exists_congr fun i => ?_
    rw [decode_eq_ok_iff]
    exact ⟨fun ⟨⟨hw, hwf⟩, hline⟩ => ⟨hwf, hline, hw.symm⟩, fun ⟨hwf, hline, hw⟩ => ⟨⟨hw.symm, hwf⟩, hline⟩⟩
  · obtain ⟨i, hi, hline⟩ := assemble_eq_ok_iff.1 h
    obtain ⟨row, hrow, hop, hl⟩ := lineOf_eq_some_iff.1 hline
    rw [← hl]
    refine ⟨?_, row, hrow, rfl, fits_rowOperands hrow (admitted_of_decode hrow hi hop.symm).2⟩
    rw [isIllegal, hi]
  · rw [assemble_fpMov]
    simp [assembleRow, takeField, hf.symm, bind, Except.bind]
  · rw [assemble_fpMov]
    simp [assembleRow, takeField, Nat.not_lt.2 hn, bind, Except.bind]
  · have hindex : n < 8 := by simpa [fits] using fits_of_assemble_scZero h
    omega
  · simpa [fits] using fits_of_assemble_ppBatchnorm h

end Sys2Proof.Machine
end

section
/-! What the statements of a command family are written in, said once for every family: the word of a command by its field values
(30_encoding.md R185), the completed states of the effects that write one place or fail (60_exceptions.md R571), and exact residues
(00_scope.md R17). -/

namespace Sys2Proof

open Spec

/-! ## Words (R185) -/

/-- The fields of a word, as disjoint parts of an integer. -/
theorem toNat_pack (x : Fields) : (pack x).toNat = x.op.toNat * 2 ^ 24 + x.d.toNat * 2 ^ 20 + x.a.toNat * 2 ^ 16 +
    x.b.toNat * 2 ^ 12 + x.c.toNat * 2 ^ 8 + x.z.toNat := by
  have happend {m n : Nat} (u : BitVec m) (v : BitVec n) : (u ++ v).toNat = u.toNat * 2 ^ n + v.toNat := by
    rw [BitVec.toNat_append, ← Nat.shiftLeft_add_eq_or_of_lt v.isLt, Nat.shiftLeft_eq]
  change (x.op ++ x.d ++ x.a ++ x.b ++ x.c ++ x.z).toNat = _
  simp only [happend]
  ring

/-- The word with a command's field values is the command's. -/
theorem word_eq_encode {i : Instr} {op d a b c : Nat} (hz : i.fields.z.toNat = 0 := by rfl) (hop : i.fields.op.toNat = op := by rfl)
    (hd : i.fields.d.toNat = d := by simp [Instr.fields, toNat_field4_fin16, toNat_field4_fin8])
    (ha : i.fields.a.toNat = a := by simp [Instr.fields, toNat_field4_fin16, toNat_field4_fin8])
    (hb : i.fields.b.toNat = b := by simp [Instr.fields, toNat_field4_fin16, toNat_field4_fin8])
    (hc : i.fields.c.toNat = c := by simp [Instr.fields, toNat_field4_fin16, toNat_field4_fin8]) : word op d a b c = encode i := by
  have h := BitVec.ofNat_toNat 32 (encode i)
  rw [BitVec.setWidth_eq, encode, toNat_pack, hz, hop, hd, ha, hb, hc, Nat.add_zero] at h
  exact h

theorem decode_word {i : Instr} {op d a b c : Nat} (hwf : i.wellFormed = true := by rfl)
    (hw : word op d a b c = encode i := by exact word_eq_encode) : decode (word op d a b c) = .ok i :=
  decode_eq_ok_iff.2 ⟨hw.symm, hwf⟩

end Sys2Proof

namespace Sys2Proof.Machine

open Spec

/-! ## Completed states (R571) -/

section
variable {i : Instr} {s : State}

theorem exec_of_writeF {d : FReg} {v : Nat} (h : effect s.operands i = .writeF d v) : exec i s = .next (putF s d v) := by
  rw [exec_eq, h]; rfl

theorem exec_of_writeFlag {v : Bool} (h : effect s.operands i = .writeFlag v) : exec i s = .next (flagged s v) := by
  rw [exec_eq, h]; rfl

theorem exec_of_writeBuf {bs : List Byte} (h : effect s.operands i = .writeBuf bs) :
    exec i s = .next (putBuf s (bufWrite s.files.BUF 0 bs)) := by
  rw [exec_eq, h]; rfl

theorem exec_of_fail {k : ErrorKind} {n : Nat} (h : effect s.operands i = .fail k) (hn : k.code.toNat = n := by rfl) :
    exec i s = .next (failed s n) := by
  rw [exec_eq, h, ← hn]
  cases k <;> rfl

end

/-- A completed command has left no operands in flight: the next one reads the registers. -/
theorem operands_putBuf (s : State) (m : Memory) : (putBuf s m).operands = { s.files with BUF := m } := rfl

/-! ## Exact residues (R17) -/

theorem eq_residue {m v : Nat} {x : Int} (h : (v : Int) = x % m) : v = residue m x := by rw [residue, ← h, Int.toNat_natCast]

theorem addMod_eq_residue (m a b : Nat) : addMod m a b = residue m ((a : Int) + b) := eq_residue (by simp [addMod])

theorem subMod_eq_residue {m : Nat} (hm : 0 < m) (a b : Nat) : subMod m a b = residue m ((a : Int) - b) :=
  eq_residue (subMod_eq_emod hm a b)

theorem negMod_eq_residue {m : Nat} (hm : 0 < m) (a : Nat) : negMod m a = residue m ((m : Int) - a) :=
  eq_residue (negMod_eq_emod hm a)

theorem mulMod_eq_residue (m a b : Nat) : mulMod m a b = residue m ((a : Int) * b) := eq_residue (by simp [mulMod])

theorem sqrMod_eq_residue (m a : Nat) : sqrMod m a = residue m ((a : Int) ^ 2) := by rw [sqrMod, mulMod_eq_residue, sq]

/-! ## Integers in BUF (R20) -/

theorem beInt_bufRead (m : Memory) (off n : Nat) : beInt (bufRead m off n) = beInteger m off n := by
  rw [beInt_eq_sum, length_bufRead, beInteger]
  exact Finset.sum_congr rfl fun k hk => by rw [getD_bufRead (Finset.mem_range.1 hk)]

theorem holdsBE_bufWrite {m : Memory} {n : Nat} (hm : Memory.wf m = true) (hn : n ≤ bufSize) (v : Nat) :
    HoldsBE (bufWrite m 0 (beBytes n v)) m n v := by
  refine ⟨bufWrite_wf hm, fun k hk => ?_, fun k hk => bufByte_bufWrite_above (by simpa using hk)⟩
  have hbyte := bufByte_bufWrite_inside (bs := beBytes n v) hm (off := 0) (by simpa using hn) (by simpa using hk)
  rw [Nat.zero_add, getD_beBytes hk] at hbyte
  rw [hbyte, BitVec.toNat_ofNat]

theorem beInt_bufRead_bufWrite {m : Memory} {n v : Nat} (hm : Memory.wf m = true) (hn : n ≤ bufSize) (hv : v < 256 ^ n) :
    beInt (bufRead (bufWrite m 0 (beBytes n v)) 0 n) = v := by
  have hread := bufRead_bufWrite (bs := beBytes n v) hm (off := 0) (by simpa using hn)
  rw [length_beBytes] at hread
  rw [hread, beInt_beBytes hv]

end Sys2Proof.Machine
end

section
/-! The BaseField family (40_fp.md R240 to R255): each command's effect against its rule, and in the field `ZMod p` what the inverse
and the square root compute. -/

namespace Sys2Proof.Machine

open Spec

/-! ## Constants, moves, predicates and the ring (R240 to R249, R252) -/

/-- Settles O28: each command's effect is the rule's own expression. -/
theorem fpConstantsMovesAndPredicates : Obligations.FpConstantsMovesAndPredicates := fun _ _ _ _ =>
  ⟨decode_word, exec_of_writeF rfl,
    decode_word, exec_of_writeF rfl,
    decode_word, exec_of_writeF rfl,
    decode_word, exec_of_writeFlag rfl,
    decode_word, exec_of_writeFlag rfl,
    decode_word, exec_of_writeFlag rfl⟩

/-- Settles O29: each command writes what its modular operation computes, which is the residue of the exact integer. -/
theorem fpRingCommandsComputeModP : Obligations.FpRingCommandsComputeModP := fun _ _ _ _ =>
  ⟨decode_word, exec_of_writeF (congrArg _ (addMod_eq_residue _ _ _)),
    decode_word, exec_of_writeF (congrArg _ (subMod_eq_residue p_pos _ _)),
    decode_word, exec_of_writeF (congrArg _ (negMod_eq_residue p_pos _)),
    decode_word, exec_of_writeF (congrArg _ (mulMod_eq_residue _ _ _)),
    decode_word, exec_of_writeF (congrArg _ (sqrMod_eq_residue _ _)), rfl⟩

/-! ## Sums of products (R255) -/

/-- A range of registers, by index. -/
theorem take_drop_eq_map {α : Type} {l : List α} {a n : Nat} (h : a + n ≤ l.length) (x : α) :
    (l.drop a).take n = (List.range n).map fun i => l.getD (a + i) x := by
  refine List.ext_getElem (by simp; omega) fun i h1 h2 => ?_
  have hi : a + i < l.length := by simp at h2; omega
  simp [List.getElem?_eq_getElem hi]

theorem fpSumOfProducts_ranges {l : List Nat} {a b n : Nat} (ha : a + n ≤ l.length) (hb : b + n ≤ l.length) :
    fpSumOfProducts (((l.drop a).take n).zip ((l.drop b).take n)) =
      residue Config.p (∑ i ∈ Finset.range n, (l.getD (a + i) 0 : Int) * l.getD (b + i) 0) := by
  rw [take_drop_eq_map ha 0, take_drop_eq_map hb 0, List.zip_map', fpSumOfProducts, List.map_map]
  change (∑ i ∈ Finset.range n, l.getD (a + i) 0 * l.getD (b + i) 0) % Config.p = _
  exact eq_residue (by simp only [Int.natCast_emod, Nat.cast_sum, Nat.cast_mul])

theorem sopCountOk_iff {a b n : Nat} : sopCountOk a b n = true ↔ 1 ≤ n ∧ a + n ≤ 16 ∧ b + n ≤ 16 := by
  simp [sopCountOk, and_assoc]

/-- The decoder makes the check of the count that the command makes (30_encoding.md R175). -/
theorem sopCountOk_of_decode {d a b : FReg} {n : Count} {i : Instr} (h : decode (word 0x10 d a b n) = .ok i) :
    sopCountOk a b n = true := by
  rw [word_eq_encode (i := .fpSop d a b n), decode, encode, fieldsOf_pack] at h
  change formatDABN (Instr.fpSop d a b n).fields .fpSop = _ at h
  obtain ⟨_, -, _, -, _, -, _, -, hcount, -⟩ := formatDABN_eq_ok_iff.1 h
  simpa only [Instr.fields, toNat_field4_fin16] using hcount

theorem exec_fpSop {d a b : FReg} {n : Count} (h : sopCountOk a b n = true) (s : State) :
    exec (.fpSop d a b n) s = .next (putF s d (residue Config.p
      (∑ i ∈ Finset.range n, (s.operands.F.toList.getD (a + i) 0 : Int) * s.operands.F.toList.getD (b + i) 0))) := by
  obtain ⟨-, ha, hb⟩ := sopCountOk_iff.1 h
  refine exec_of_writeF ?_
  rw [effect, if_pos h, fpSumOfProducts_ranges (by simpa using ha) (by simpa using hb)]

/-- Settles O30: the ranges by index; the decoder makes the same check of the count. -/
theorem fpSumOfProductsIsExact : Obligations.FpSumOfProductsIsExact := by
  refine fun s d a b n => ⟨fun hn ha hb => ?_, fun hn => ?_, fun hbad => ?_⟩
  · have hok : sopCountOk a b n = true := sopCountOk_iff.2 ⟨hn, ha, hb⟩
    exact ⟨decode_word hok, exec_fpSop hok s⟩
  · rw [exec_fpSop (sopCountOk_iff.2 (by omega)), hn, exec_of_writeF (congrArg _ (mulMod_eq_residue _ _ _)), Finset.sum_range_one]
    simp
  · refine runWord_of_illegal (fun i hi => hbad ?_) s
    exact sopCountOk_iff.1 (sopCountOk_of_decode hi)

/-! ## The inverse (R250) -/

theorem cast_ne_zero_of_lt {m a : Nat} (h0 : a ≠ 0) (h : a < m) : (a : ZMod m) ≠ 0 := fun hz =>
  h0 (Nat.eq_zero_of_dvd_of_lt ((ZMod.natCast_eq_zero_iff a m).1 hz) h)

theorem mul_mod_eq_one_iff {a v : Nat} : a * v % Config.p = 1 ↔ (a : ZMod Config.p) * v = 1 := by
  rw [← Nat.cast_mul, ← Nat.cast_one (R := ZMod Config.p), ZMod.natCast_eq_natCast_iff', Nat.mod_eq_of_lt one_lt_p]

theorem mul_mod_eq_one_iff_eq_fpInv {a v : Nat} (h0 : a ≠ 0) (ha : a < Config.p) (hv : v < Config.p) :
    a * v % Config.p = 1 ↔ v = fpInv a := by
  have := fact_p
  have hne := cast_ne_zero_of_lt h0 ha
  rw [mul_mod_eq_one_iff, mul_comm, mul_eq_one_iff_eq_inv₀ hne, ← cast_fpInv]
  exact ⟨eq_of_cast_eq hv (fpInv_lt a), congrArg _⟩

/-- Settles O31: below p the equation `F[a]·v ≡ 1` has the one solution `fpInv`. -/
theorem fpInverseIsTheUniqueInverse : Obligations.FpInverseIsTheUniqueInverse := by
  refine fun s d a ha => ⟨decode_word, fun h0 => exec_of_fail (if_pos h0), fun h0 => ?_⟩
  have hinv : s.opF a * fpInv (s.opF a) % Config.p = 1 := (mul_mod_eq_one_iff_eq_fpInv h0 ha (fpInv_lt _)).2 rfl
  refine ⟨fpInv (s.opF a), Nat.one_le_iff_ne_zero.2 fun hz => ?_, fpInv_lt _, hinv, exec_of_writeF (if_neg h0),
    fun v hv => (mul_mod_eq_one_iff_eq_fpInv h0 ha hv).1⟩
  simp [hz] at hinv

/-! ## The square root (R251) -/

theorem fpRoot_eq (a : Nat) : fpRoot a = a ^ ((Config.p + 1) / 4) % Config.p := powMod_eq one_lt_p (by decide +kernel)

/-- The candidate root of a square is a root: `(y^2)^((p+1)/2) = y^p·y = y^2`. -/
theorem fpSqr_fpRoot {a y : Nat} (ha : a < Config.p) (hy : y * y % Config.p = a) : fpSqr (fpRoot a) = a := by
  have := fact_p
  have hcast : (a : ZMod Config.p) = y ^ 2 := by rw [← hy, ZMod.natCast_mod, Nat.cast_mul, sq]
  have hexp : 2 * ((Config.p + 1) / 4 * 2) = Config.p + 1 := by decide +kernel
  refine eq_of_cast_eq (fpSqr_lt _) ha ?_
  rw [cast_fpSqr, cast_fpRoot, hcast, ← pow_mul, ← pow_mul, hexp, pow_succ, ZMod.pow_card, sq]

theorem fpSqrt?_of_square {a y : Nat} (ha : a < Config.p) (hy : y * y % Config.p = a) : fpSqrt? a = some (fpRoot a) :=
  if_pos (fpSqr_fpRoot ha hy)

theorem fpSqrt?_of_not_square {a : Nat} (h : ¬∃ y, y * y % Config.p = a) : fpSqrt? a = none :=
  if_neg fun hroot => h ⟨fpRoot a, hroot⟩

/-- Settles O32: the candidate of a square is its root, and where the candidate is a root there is one. -/
theorem fpSquareRootFindsEverySquare : Obligations.FpSquareRootFindsEverySquare := by
  refine fun s d a ha => ⟨decode_word, fun ⟨y, hy⟩ => ?_, fun h => exec_of_fail (k := .notASquare) ?_⟩
  · rw [← fpRoot_eq, sq]
    exact ⟨exec_of_writeF (congrArg (Effect.orFail _ _) (fpSqrt?_of_square ha hy)), fpSqr_fpRoot ha hy⟩
  · exact congrArg (Effect.orFail _ _) (fpSqrt?_of_not_square h)

/-! ## The byte codec (R253, R254) -/

theorem p_lt_256_pow : Config.p < 256 ^ 48 := by decide +kernel

theorem exec_fpTobytes (a : FReg) (s : State) :
    exec (.fpTobytes a) s = .next (putBuf s (bufWrite s.files.BUF 0 (beBytes 48 (s.opF a)))) := exec_of_writeBuf rfl

theorem exec_fpFrombytes_of_lt {d : FReg} {s : State} {v : Nat} (hv : beInt (bufRead s.operands.BUF 0 48) = v) (h : v < Config.p) :
    exec (.fpFrombytes d) s = .next (putF s d v) := by
  subst hv
  refine exec_of_writeF ?_
  rw [effect, if_neg (Nat.not_le.2 h)]

theorem exec_fpFrombytes_of_le {d : FReg} {s : State} (h : Config.p ≤ beInt (bufRead s.operands.BUF 0 48)) :
    exec (.fpFrombytes d) s = .next (failed s 3) := by
  refine exec_of_fail (k := .malformedEncoding) ?_
  rw [effect, if_pos h]

/-- Settles O33: the bytes written, the integer read, and reading back the bytes just written. -/
theorem fpByteCodec : Obligations.FpByteCodec := by
  refine ⟨fun s a _ hwf => ⟨decode_word, _, exec_fpTobytes a s, holdsBE_bufWrite hwf (by decide) _⟩,
    fun s d => ⟨decode_word, exec_fpFrombytes_of_lt (beInt_bufRead _ _ _), fun h => exec_fpFrombytes_of_le ?_⟩,
    fun s t a d ha hwf ht => ?_⟩
  · rwa [beInt_bufRead]
  · rw [exec_fpTobytes, Host.Outcome.next.injEq] at ht
    subst ht
    refine exec_fpFrombytes_of_lt ?_ ha
    rw [operands_putBuf, beInt_bufRead_bufWrite hwf (by decide) (ha.trans p_lt_256_pow)]

end Sys2Proof.Machine
end

section
/-! The Montgomery datapath (40_fp.md R231 to R238, 42_scalar.md R351, R352). What the reducer does is said once, for any path with
sound constants: it divides by the radix in `ZMod m` and its result is canonical. Every use of the datapath then follows by comparing
canonical values in `ZMod m`, where the radix is a unit. -/

namespace Sys2Proof.Machine

/-- What the reducer needs of a path's constants (40_fp.md R232, 42_scalar.md R351). -/
structure MontPath.Sound (M : MontPath) : Prop where
  pos : 0 < M.modulus
  modulus_lt : M.modulus < M.radix
  coprime : M.radix.Coprime M.modulus
  inv_mul : M.inv * M.modulus % 2 ^ 64 = 2 ^ 64 - 1

theorem sound_montP : montP.Sound := ⟨p_pos, by decide +kernel, by decide +kernel, invP_mul_p⟩

theorem sound_montR : montR.Sound := ⟨r_pos, by decide +kernel, by decide +kernel, invR_mul_r⟩

theorem sound_of_mem : ∀ M ∈ [montP, montR], M.Sound := by simpa using ⟨sound_montP, sound_montR⟩

theorem cast_montForm (M : MontPath) (v : Nat) : (montForm M v : ZMod M.modulus) = v * M.radix := by
  rw [montForm, ZMod.natCast_mod, Nat.cast_mul]

section
variable {M : MontPath} (hM : M.Sound)
include hM

/-! ## The reducer (R232, R233) -/

/-- The multiple of the modulus that a round adds clears the limb: `w + (w·inv mod 2^64)·m` is divisible by `2^64`. -/
theorem MontPath.Sound.limb_dvd (w : Nat) : 2 ^ 64 ∣ w + w % 2 ^ 64 * M.inv % 2 ^ 64 * M.modulus := by
  have hinv : ((M.inv : Nat) : ZMod (2 ^ 64)) * M.modulus = -1 := by
    have h : ((M.inv * M.modulus : Nat) : ZMod (2 ^ 64)) = ((2 ^ 64 - 1 : Nat) : ZMod (2 ^ 64)) := by
      rw [← hM.inv_mul, ZMod.natCast_mod]
    rw [Nat.cast_mul] at h
    rw [h]
    decide
  rw [← ZMod.natCast_eq_zero_iff, Nat.cast_add, Nat.cast_mul, ZMod.natCast_mod, Nat.cast_mul, ZMod.natCast_mod, mul_assoc, hinv]
  ring

/-- A round adds a one-limb multiple of the modulus at limb i, and clears that limb. -/
theorem MontPath.Sound.montRound_spec {T i : Nat} (hT : 2 ^ (64 * i) ∣ T) :
    (∃ k < 2 ^ 64, montRound M T i = T + k * M.modulus * 2 ^ (64 * i)) ∧ 2 ^ (64 * (i + 1)) ∣ montRound M T i := by
  refine ⟨⟨_, Nat.mod_lt _ (by decide), rfl⟩, ?_⟩
  obtain ⟨w, rfl⟩ := hT
  rw [montRound, Nat.shiftRight_eq_div_pow, Nat.mul_div_cancel_left _ (by positivity), Nat.mul_comm _ (2 ^ (64 * i)), ← Nat.mul_add,
    Nat.mul_succ, Nat.pow_add]
  exact Nat.mul_dvd_mul_left _ (hM.limb_dvd w)

/-- After n rounds the low n limbs are clear, and an n-limb multiple of the modulus was added. -/
theorem MontPath.Sound.montRounds_spec (T n : Nat) :
    (∃ K < 2 ^ (64 * n), montRounds M T n = T + K * M.modulus) ∧ 2 ^ (64 * n) ∣ montRounds M T n := by
  induction n with
  | zero => exact ⟨⟨0, by simp [montRounds]⟩, by simp⟩
  | succ n ih =>
    obtain ⟨⟨K, hK, hrounds⟩, hdvd⟩ := ih
    obtain ⟨⟨k, hk, hround⟩, hdvd'⟩ := hM.montRound_spec hdvd
    refine ⟨⟨K + k * 2 ^ (64 * n), ?_, ?_⟩, hdvd'⟩
    · calc K + k * 2 ^ (64 * n) < (k + 1) * 2 ^ (64 * n) := by rw [Nat.succ_mul k, Nat.add_comm]; exact Nat.add_lt_add_left hK _
        _ ≤ 2 ^ 64 * 2 ^ (64 * n) := Nat.mul_le_mul_right _ hk
        _ = 2 ^ (64 * (n + 1)) := by rw [Nat.mul_succ, Nat.pow_add, Nat.mul_comm]
    · rw [montRounds, hround, hrounds]; ring

/-- The value before the final subtraction, times the radix: T and a multiple of the modulus below modulus times radix. -/
theorem MontPath.Sound.quotient_mul_radix (T : Nat) :
    ∃ K < M.radix, montRounds M T M.limbCount / M.radix * M.radix = T + K * M.modulus := by
  obtain ⟨⟨K, hK, hrounds⟩, hdvd⟩ := hM.montRounds_spec T M.limbCount
  exact ⟨K, hK, (Nat.div_mul_cancel hdvd).trans hrounds⟩

theorem MontPath.Sound.radix_pos : 0 < M.radix := hM.pos.trans hM.modulus_lt

/-- One conditional subtraction suffices. -/
theorem MontPath.Sound.quotient_lt {T : Nat} (hT : T < M.modulus * M.radix) :
    montRounds M T M.limbCount / M.radix < 2 * M.modulus := by
  obtain ⟨K, hK, h⟩ := hM.quotient_mul_radix T
  have hK : K * M.modulus ≤ M.modulus * M.radix := by rw [Nat.mul_comm]; exact Nat.mul_le_mul_left _ hK.le
  refine Nat.lt_of_mul_lt_mul_right (a := M.radix) ?_
  rw [h, Nat.mul_assoc]
  omega

theorem MontPath.Sound.montRed_lt {T : Nat} (hT : T < M.modulus * M.radix) : montRed M T < M.modulus := by
  have h := hM.quotient_lt hT
  simp only [montRed]
  split <;> omega

theorem MontPath.Sound.cast_montRed (T : Nat) : (montRed M T : ZMod M.modulus) * M.radix = T := by
  obtain ⟨K, -, h⟩ := hM.quotient_mul_radix T
  have hred : (montRed M T : ZMod M.modulus) = (montRounds M T M.limbCount / M.radix : Nat) := by
    simp only [montRed]
    split
    · rw [Nat.cast_sub ‹_›, ZMod.natCast_self, sub_zero]
    · rfl
  rw [hred, ← Nat.cast_mul, h]
  simp

/-- The reducer's result is the one canonical value that times the radix is T. -/
theorem MontPath.Sound.montRed_eq {T v : Nat} (hT : T < M.modulus * M.radix) (hv : v < M.modulus)
    (h : (v : ZMod M.modulus) * M.radix = T) : montRed M T = v :=
  eq_of_cast_eq (hM.montRed_lt hT) hv
    (((ZMod.isUnit_iff_coprime _ _).2 hM.coprime).mul_right_cancel ((hM.cast_montRed T).trans h.symm))

/-! ## Stored forms (R231, R234, R236) -/

theorem MontPath.Sound.montForm_lt (v : Nat) : montForm M v < M.modulus := Nat.mod_lt _ hM.pos

/-- A canonical value is the stored form of v when it is v times the radix. -/
theorem MontPath.Sound.eq_montForm {x v : Nat} (hx : x < M.modulus) (h : (x : ZMod M.modulus) = v * M.radix) : x = montForm M v :=
  eq_of_cast_eq hx (hM.montForm_lt v) (by rw [h, cast_montForm])

/-- The reducer's result is the stored form of v when T is v times the square of the radix. -/
theorem MontPath.Sound.montRed_eq_montForm {T v : Nat} (hT : T < M.modulus * M.radix)
    (h : (T : ZMod M.modulus) = v * M.radix * M.radix) : montRed M T = montForm M v :=
  hM.montRed_eq hT (hM.montForm_lt v) (by rw [h, cast_montForm])

end

/-- Settles O58: for every path with sound constants, and the two paths have them. -/
theorem montgomeryReducerDividesByTheRadix : Obligations.MontgomeryReducerDividesByTheRadix := by
  intro M hmem T hT
  have hM := sound_of_mem M hmem
  refine ⟨hM.montRed_lt hT, ?_, hM.quotient_lt hT, Nat.mod_eq_zero_of_dvd (hM.montRounds_spec T M.limbCount).2⟩
  rw [← Nat.ModEq, ← ZMod.natCast_eq_natCast_iff, Nat.cast_mul, hM.cast_montRed]

/-! ## The adder, the subtractor and the negator (R237) -/

theorem modAdd_eq_addMod {m x y : Nat} (hx : x < m) (hy : y < m) : modAdd m x y = addMod m x y := by
  rw [modAdd, addMod]
  split
  · rw [Nat.mod_eq_sub_mod ‹_›, Nat.mod_eq_of_lt (by omega)]
  · rw [Nat.mod_eq_of_lt (by omega)]

theorem modSub_eq_subMod {m x y : Nat} (hx : x < m) (hy : y < m) : modSub m x y = subMod m x y := by
  rw [modSub, subMod, Nat.mod_eq_of_lt hy]
  split
  · rw [Nat.mod_eq_of_lt (by omega), Nat.add_sub_assoc hy.le]
  · rw [show x + (m - y) = x - y + m by omega, Nat.add_mod_right, Nat.mod_eq_of_lt (by omega)]

theorem modNeg_eq_negMod {m x : Nat} (hx : x < m) : modNeg m x = negMod m x := by
  rw [modNeg, negMod, Nat.mod_eq_of_lt hx]
  by_cases h0 : x = 0
  · simp [h0]
  · rw [if_pos h0, Nat.mod_eq_of_lt (by omega)]

/-! ## The datapath computes the commands (R234, R236, R237) -/

theorem mul_lt_modulus_mul_radix {M : MontPath} {x y : Nat} (hx : x < M.radix) (hy : y < M.modulus) :
    x * y < M.modulus * M.radix := by
  rw [Nat.mul_comm]
  exact Nat.mul_lt_mul'' hy hx

section
variable {M : MontPath} (hM : M.Sound)
include hM

theorem MontPath.Sound.montMul_montForm (a b : Nat) : montMul M (montForm M a) (montForm M b) = montForm M (a * b % M.modulus) := by
  refine hM.montRed_eq_montForm (mul_lt_modulus_mul_radix ((hM.montForm_lt a).trans hM.modulus_lt) (hM.montForm_lt b)) ?_
  rw [Nat.cast_mul, cast_montForm, cast_montForm, ZMod.natCast_mod, Nat.cast_mul]
  ring

theorem MontPath.Sound.montRed_montForm {v : Nat} (hv : v < M.modulus) : montRed M (montForm M v) = v :=
  hM.montRed_eq ((hM.montForm_lt v).trans_le (Nat.le_mul_of_pos_right _ hM.radix_pos)) hv (cast_montForm M v).symm

theorem MontPath.Sound.modAdd_montForm (a b : Nat) :
    modAdd M.modulus (montForm M a) (montForm M b) = montForm M (addMod M.modulus a b) := by
  rw [modAdd_eq_addMod (hM.montForm_lt a) (hM.montForm_lt b)]
  refine hM.eq_montForm (addMod_lt hM.pos _ _) ?_
  rw [cast_addMod, cast_addMod, cast_montForm, cast_montForm, add_mul]

theorem MontPath.Sound.modSub_montForm (a b : Nat) :
    modSub M.modulus (montForm M a) (montForm M b) = montForm M (subMod M.modulus a b) := by
  rw [modSub_eq_subMod (hM.montForm_lt a) (hM.montForm_lt b)]
  refine hM.eq_montForm (subMod_lt hM.pos _ _) ?_
  rw [cast_subMod hM.pos, cast_subMod hM.pos, cast_montForm, cast_montForm, sub_mul]

theorem MontPath.Sound.modNeg_montForm (a : Nat) : modNeg M.modulus (montForm M a) = montForm M (negMod M.modulus a) := by
  rw [modNeg_eq_negMod (hM.montForm_lt a)]
  refine hM.eq_montForm (negMod_lt hM.pos _) ?_
  rw [cast_negMod hM.pos, cast_negMod hM.pos, cast_montForm, neg_mul]

/-- Multiplying by the constant `k·R^2 mod m` enters the datapath with the factor k (R236, R352). -/
theorem MontPath.Sound.montMul_radix_sq {x c k : Nat} (hx : x < M.radix) (hc : c = k * M.radix ^ 2 % M.modulus) :
    montMul M x c = montForm M (x * k) := by
  refine hM.montRed_eq_montForm (mul_lt_modulus_mul_radix hx (hc ▸ Nat.mod_lt _ hM.pos)) ?_
  rw [hc, Nat.cast_mul, ZMod.natCast_mod, Nat.cast_mul, Nat.cast_mul, Nat.cast_pow]
  ring

end

/-- R235, R352: the second and third powers of the radix, as multiples of its square. -/
theorem ofLimbs_radix_sq_multiples : ofLimbs Config.radixP2 = 1 * montP.radix ^ 2 % montP.modulus ∧
    ofLimbs Config.radixR2 = 1 * montR.radix ^ 2 % montR.modulus ∧
    ofLimbs Config.radixR3 = 2 ^ 256 * montR.radix ^ 2 % montR.modulus := by decide +kernel

theorem enterP_eq_montForm {v : Nat} (hv : v < montP.modulus) : enterP v = montForm montP v := by
  obtain ⟨hsq, -⟩ := ofLimbs_radix_sq_multiples
  rw [enterP, sound_montP.montMul_radix_sq (hv.trans sound_montP.modulus_lt) hsq, Nat.mul_one]

/-- The two multiplications of R352 give the stored form of the wide scalar. -/
theorem wideReduceR_eq_montForm {d0 d1 : Nat} (h0 : d0 < 2 ^ 256) (h1 : d1 < 2 ^ 256) :
    wideReduceR d0 d1 = montForm montR ((d0 + d1 * 2 ^ 256) % Config.r) := by
  obtain ⟨-, hsq, hcube⟩ := ofLimbs_radix_sq_multiples
  rw [wideReduceR, sound_montR.montMul_radix_sq h0 hsq, sound_montR.montMul_radix_sq h1 hcube, Nat.mul_one]
  exact sound_montR.modAdd_montForm _ _

/-! ## Sums of products (R238) -/

/-- Up to 8 raw products of canonical values are in the reducer's range, since `8p < 2^384`. -/
theorem sum_products_lt {pairs : List (Nat × Nat)} (hlen : pairs.length ≤ 8) (h : ∀ q ∈ pairs, q.1 < Config.p ∧ q.2 < Config.p) :
    (pairs.map fun q => q.1 * q.2).sum < montP.modulus * montP.radix := by
  have hsum := List.sum_le_card_nsmul (pairs.map fun q => q.1 * q.2) (Config.p * Config.p) fun x hx => by
    obtain ⟨q, hq, rfl⟩ := List.mem_map.1 hx
    exact Nat.mul_le_mul (h q hq).1.le (h q hq).2.le
  rw [List.length_map, smul_eq_mul] at hsum
  calc _ ≤ pairs.length * (Config.p * Config.p) := hsum
    _ ≤ 8 * (Config.p * Config.p) := Nat.mul_le_mul_right _ hlen
    _ < montP.modulus * montP.radix := by decide +kernel

/-- The stored forms of a list of pairs. -/
def storedPairs (pairs : List (Nat × Nat)) : List (Nat × Nat) := pairs.map fun q => (montForm montP q.1, montForm montP q.2)

theorem cast_sum_storedPairs (pairs : List (Nat × Nat)) :
    ((((storedPairs pairs).map fun q => q.1 * q.2).sum : Nat) : ZMod Config.p) =
      (fpSumOfProducts pairs : Nat) * montP.radix * montP.radix := by
  rw [cast_fpSumOfProducts]
  induction pairs with
  | nil => simp [storedPairs]
  | cons q pairs ih =>
    have hform (v : Nat) : (montForm montP v : ZMod Config.p) = v * montP.radix := cast_montForm montP v
    rw [storedPairs, List.map_cons, List.map_cons, List.sum_cons, Nat.cast_add, ← storedPairs, ih, Nat.cast_mul, hform, hform,
      List.map_cons, List.sum_cons]
    ring

theorem montSop8_storedPairs {pairs : List (Nat × Nat)} (hlen : pairs.length ≤ 8) :
    montSop8 (storedPairs pairs) = montForm montP (fpSumOfProducts pairs) := by
  refine sound_montP.montRed_eq_montForm (sum_products_lt (by simpa [storedPairs] using hlen) fun q hq => ?_) (cast_sum_storedPairs pairs)
  obtain ⟨q, -, rfl⟩ := List.mem_map.1 hq
  exact ⟨sound_montP.montForm_lt _, sound_montP.montForm_lt _⟩

/-- A sum of products in two parts, as the datapath groups it. -/
theorem fpSumOfProducts_take_drop (n : Nat) (pairs : List (Nat × Nat)) :
    addMod Config.p (fpSumOfProducts (pairs.take n)) (fpSumOfProducts (pairs.drop n)) = fpSumOfProducts pairs := by
  rw [addMod, fpSumOfProducts, fpSumOfProducts, ← Nat.add_mod, ← List.sum_append, ← List.map_append, List.take_append_drop,
    fpSumOfProducts]

theorem montSop_storedPairs {pairs : List (Nat × Nat)} (hlen : pairs.length ≤ 16) :
    montSop (storedPairs pairs) = montForm montP (fpSumOfProducts pairs) := by
  have hlow := montSop8_storedPairs (pairs := pairs.take 8) (by simp)
  have hhigh := montSop8_storedPairs (pairs := pairs.drop 8) (by simp; omega)
  rw [storedPairs, List.map_take] at hlow
  rw [storedPairs, List.map_drop] at hhigh
  rw [montSop, storedPairs, hlow, hhigh, ← fpSumOfProducts_take_drop 8 pairs]
  exact sound_montP.modAdd_montForm _ _

/-- Settles O59: each operation by its own lemma. -/
theorem montgomeryDatapathComputesTheCommands : Obligations.MontgomeryDatapathComputesTheCommands := by
  refine ⟨fun M hmem a b ha hb => ?_, fun v hv => ?_, fun pairs hlen _ => montSop_storedPairs (by omega),
    fun d0 d1 => wideReduceR_eq_montForm⟩
  · have hM := sound_of_mem M hmem
    exact ⟨hM.montMul_montForm a b, hM.montRed_montForm ha, hM.modAdd_montForm a b, hM.modSub_montForm a b, hM.modNeg_montForm a,
      modAdd_eq_addMod ha hb, modSub_eq_subMod ha hb, modNeg_eq_negMod ha⟩
  · rw [enterP_eq_montForm hv]
    exact ⟨rfl, sound_montP.montRed_montForm hv⟩

end Sys2Proof.Machine
end

section
/-! The ExtensionField family (41_fp2.md R301 to R319): each command's effect against its rule, and in the field `Fp[u]/(u² + 1)` what
the power, the inverse and the square root compute. -/

namespace Sys2Proof.Machine

open Spec

/-! ## Constants, moves and predicates (R301 to R308) -/

theorem exec_of_writeE {i : Instr} {s : State} {d : EReg} {v : Fp2} (h : effect s.operands i = .writeE d v) :
    exec i s = .next (putE s d v) := by
  rw [exec_eq, h]; rfl

theorem decide_components_eq (a b : Fp2) : (decide (a.c0 = b.c0) && decide (a.c1 = b.c1)) = decide (a = b) := by
  cases a; cases b; simp

/-- Settles O34: each command's effect is the rule's own expression, and two values are equal when their components are. -/
theorem fp2ConstantsMovesAndPredicates : Obligations.Fp2ConstantsMovesAndPredicates := fun _ _ _ _ _ _ =>
  ⟨decode_word, exec_of_writeE rfl,
    decode_word, exec_of_writeE rfl,
    decode_word, exec_of_writeE rfl,
    decode_word, exec_of_writeE rfl,
    decode_word, exec_of_writeF rfl,
    decode_word, exec_of_writeF rfl,
    decode_word, exec_of_writeFlag (congrArg _ (decide_components_eq _ ⟨0, 0⟩)),
    decode_word, exec_of_writeFlag (congrArg _ (decide_components_eq _ _))⟩

/-! ## The field `Fp[u]/(u² + 1)` (R300) -/

/-- The extension as Mathlib has it, with `u² = -1`. -/
abbrev ExtField := QuadraticAlgebra (ZMod Config.p) (-1) 0

/-- The element `c0 + c1·u` that a register's value stands for (10_state.md R53). -/
def toExt (a : Fp2) : ExtField := ⟨a.c0, a.c1⟩

@[simp] theorem re_toExt (a : Fp2) : (toExt a).re = a.c0 := rfl
@[simp] theorem im_toExt (a : Fp2) : (toExt a).im = a.c1 := rfl

/-- Canonical values that stand for one element are equal. -/
theorem eq_of_toExt_eq {a b : Fp2} (ha : a.Canonical) (hb : b.Canonical) (h : toExt a = toExt b) : a = b := by
  obtain ⟨hre, him⟩ := QuadraticAlgebra.ext_iff.1 h
  have h0 := eq_of_cast_eq ha.c0 hb.c0 hre
  have h1 := eq_of_cast_eq ha.c1 hb.c1 him
  cases a; cases b
  exact congrArg₂ Fp2.mk h0 h1

theorem toExt_fp2One : toExt fp2One = 1 := QuadraticAlgebra.ext Nat.cast_one Nat.cast_zero

theorem toExt_neg_one : toExt ⟨Config.p - 1, 0⟩ = -1 := by
  have hcast : ((Config.p - 1 : Nat) : ZMod Config.p) = -1 := by rw [Nat.cast_pred p_pos, ZMod.natCast_self, zero_sub]
  exact QuadraticAlgebra.ext hcast (Nat.cast_zero.trans neg_zero.symm)

theorem toExt_fp2Add (a b : Fp2) : toExt (fp2Add a b) = toExt a + toExt b := by ext <;> simp [fp2Add, cast_fpAdd]

theorem toExt_fp2Mul (a b : Fp2) : toExt (fp2Mul a b) = toExt a * toExt b := by
  ext <;> simp [fp2Mul, cast_fpSumOfProducts, cast_fpNeg]

theorem toExt_fp2Pow (a : Fp2) {e : Nat} (he : e < 2 ^ 384) : toExt (fp2Pow a e) = toExt a ^ e :=
  map_powVartime toExt_fp2Mul toExt_fp2One a he

/-- The complex-squaring identity `(c0 + c1)(c0 - c1) = c0² - c1²` (R313). -/
theorem fp2Sqr_eq_fp2Mul (a : Fp2) : fp2Sqr a = fp2Mul a a := by
  refine eq_of_toExt_eq ⟨fpMul_lt _ _, fpMul_lt _ _⟩ (canonical_fp2Mul a a) ?_
  rw [toExt_fp2Mul]
  ext <;> simp [fp2Sqr, cast_fpMul, cast_fpAdd, cast_fpSub] <;> ring

/-! ## Ring arithmetic (R309 to R316) -/

theorem residue_eq_of_cast {m v : Nat} {x : Int} (hv : v < m) (h : (x : ZMod m) = v) : residue m x = v := by
  refine (eq_residue ?_).symm
  rw [← Int.cast_natCast, ZMod.intCast_eq_intCast_iff'] at h
  rw [h, ← Int.natCast_mod, Nat.mod_eq_of_lt hv]

theorem fp2Mul_eq_residues (a b : Fp2) : fp2Mul a b = ⟨residue Config.p ((a.c0 : Int) * b.c0 - a.c1 * b.c1),
    residue Config.p ((a.c0 : Int) * b.c1 + a.c1 * b.c0)⟩ :=
  congrArg₂ Fp2.mk
    (residue_eq_of_cast (fpSumOfProducts_lt _) (by simp [cast_fpSumOfProducts, cast_fpNeg, sub_eq_add_neg])).symm
    (residue_eq_of_cast (fpSumOfProducts_lt _) (by simp [cast_fpSumOfProducts])).symm

theorem fp2Sqr_eq_residues (a : Fp2) : fp2Sqr a =
    ⟨residue Config.p ((a.c0 : Int) ^ 2 - (a.c1 : Int) ^ 2), residue Config.p (2 * (a.c0 : Int) * a.c1)⟩ := by
  rw [fp2Sqr_eq_fp2Mul, fp2Mul_eq_residues]
  exact congrArg₂ (fun x y => Fp2.mk (residue Config.p x) (residue Config.p y)) (by ring) (by ring)

/-- Settles O35: componentwise, each operation is the residue of the exact integer. -/
theorem fp2RingCommandsComputeModP : Obligations.Fp2RingCommandsComputeModP := fun _ _ _ _ =>
  ⟨decode_word, exec_of_writeE (congrArg _ (congrArg₂ _ (addMod_eq_residue _ _ _) (addMod_eq_residue _ _ _))),
    decode_word, exec_of_writeE (congrArg _ (congrArg₂ _ (subMod_eq_residue p_pos _ _) (subMod_eq_residue p_pos _ _))),
    decode_word, exec_of_writeE (congrArg _ (congrArg₂ _ (negMod_eq_residue p_pos _) (negMod_eq_residue p_pos _))),
    decode_word, exec_of_writeE (congrArg _ (fp2Mul_eq_residues _ _)),
    decode_word, exec_of_writeE (congrArg _ (fp2Sqr_eq_residues _)),
    (exec_of_writeE (congrArg _ (fp2Sqr_eq_fp2Mul _))).trans (exec_of_writeE rfl).symm,
    decode_word, exec_of_writeE (congrArg _ (congrArg _ (negMod_eq_residue p_pos _))),
    decode_word, exec_of_writeE (congrArg _ (congrArg _ (negMod_eq_residue p_pos _))),
    decode_word, exec_of_writeE (congrArg _ (congrArg₂ _ (subMod_eq_residue p_pos _ _) (addMod_eq_residue _ _ _)))⟩

/-! ## Powers (R319) -/

theorem toExt_iterate_fp2Mul (a : Fp2) (e : Nat) : toExt ((fun y => fp2Mul y a)^[e] fp2One) = toExt a ^ e := by
  induction e with
  | zero => rw [Function.iterate_zero_apply, toExt_fp2One, pow_zero]
  | succ e ih => rw [Function.iterate_succ_apply', toExt_fp2Mul, ih, pow_succ]

theorem canonical_iterate_fp2Mul (a : Fp2) (e : Nat) : ((fun y => fp2Mul y a)^[e] fp2One).Canonical := by
  cases e with
  | zero => exact canonical_fp2One
  | succ e => rw [Function.iterate_succ_apply']; exact canonical_fp2Mul _ _

/-- Square-and-multiply is the iterated product: both are canonical and stand for the power. -/
theorem fp2Pow_eq_iterate (a : Fp2) {e : Nat} (he : e < 2 ^ 384) : fp2Pow a e = (fun y => fp2Mul y a)^[e] fp2One :=
  eq_of_toExt_eq (canonical_fp2Pow a e) (canonical_iterate_fp2Mul a e) ((toExt_fp2Pow a he).trans (toExt_iterate_fp2Mul a e).symm)

/-- Settles O38: square-and-multiply over 384 bits is the iterated product. -/
theorem fp2PowerIsTheIteratedProduct : Obligations.Fp2PowerIsTheIteratedProduct := fun _ _ _ _ he =>
  ⟨decode_word, exec_of_writeE (congrArg _ (fp2Pow_eq_iterate _ he))⟩

/-! ## The inverse (R317) -/

theorem cast_fp2Norm (a : Fp2) : (fp2Norm a : ZMod Config.p) = (a.c0 : ZMod Config.p) ^ 2 + (a.c1 : ZMod Config.p) ^ 2 := by
  rw [fp2Norm, cast_fpAdd, cast_fpSqr, cast_fpSqr]

/-- A sum of two squares is 0 only at zero, because -1 is no square modulo `p ≡ 3 mod 4`. -/
theorem fp2Norm_ne_zero {a : Fp2} (ha : a.Canonical) (h0 : a ≠ ⟨0, 0⟩) : fp2Norm a ≠ 0 := by
  intro hn
  have := fact_p
  have hsum : (a.c0 : ZMod Config.p) ^ 2 + (a.c1 : ZMod Config.p) ^ 2 = 0 := by rw [← cast_fp2Norm, hn, Nat.cast_zero]
  have hsq := eq_neg_of_add_eq_zero_left hsum
  obtain ⟨-, -, hmod⟩ := p_bits_and_residue
  have h1 : (a.c1 : ZMod Config.p) = 0 := by
    by_contra hne
    exact ZMod.mod_four_ne_three_of_sq_eq_neg_sq' hne hsq hmod
  have h2 : (a.c0 : ZMod Config.p) = 0 := by simpa [h1] using hsq
  exact h0 (eq_of_toExt_eq ha canonical_fp2Zero (QuadraticAlgebra.ext (by simpa using h2) (by simpa using h1)))

/-- Settles O36: below p the norm is 0 only at zero, and elsewhere the norm formula multiplies to 1. -/
theorem fp2InverseIsTheInverse : Obligations.Fp2InverseIsTheInverse := by
  refine fun s d a h0 h1 => ⟨decode_word, fun hz => exec_of_fail (k := .notInvertible) ?_, fun hz => ?_⟩
  · exact congrArg (Effect.orFail _ _) (if_pos ((congrArg fp2Norm hz).trans (by decide)))
  · have := fact_p
    have hnorm := fp2Norm_ne_zero ⟨h0, h1⟩ hz
    have hinv : fp2Inv? (s.opE a) = some _ := if_neg hnorm
    obtain ⟨hv0, hv1⟩ := canonical_fp2Inv? hinv
    have hn : ((s.opE a).c0 : ZMod Config.p) ^ 2 + ((s.opE a).c1 : ZMod Config.p) ^ 2 ≠ 0 := by
      rw [← cast_fp2Norm]
      exact cast_ne_zero_of_lt hnorm (fpAdd_lt _ _)
    refine ⟨_, hv0, hv1, exec_of_writeE (congrArg (Effect.orFail _ _) hinv), residue_eq_of_cast one_lt_p ?_,
      residue_eq_of_cast p_pos ?_, residue_eq_of_cast p_pos ?_, residue_eq_of_cast p_pos ?_⟩ <;>
    · push_cast [cast_fpMul, cast_fpNeg, cast_fpInv, cast_fp2Norm]
      field_simp
      ring

/-! ## The square root (R318) -/

theorem fact_neg_one_not_square : Fact (∀ x : ZMod Config.p, x ^ 2 ≠ -1 + 0 * x) := by
  have := fact_p
  obtain ⟨-, -, hmod⟩ := p_bits_and_residue
  refine ⟨fun x hx => ZMod.mod_four_ne_three_of_sq_eq_neg_one (hx.trans ?_) hmod⟩
  rw [zero_mul, add_zero]

/-- The Frobenius map has order two on the extension, which has `p²` elements. -/
theorem pow_p_pow_p (z : ExtField) : (z ^ Config.p) ^ Config.p = z := by
  have := fact_p
  have := fact_neg_one_not_square
  have : Finite ExtField := Module.finite_of_finite (ZMod Config.p)
  have := Fintype.ofFinite ExtField
  have hcard : Fintype.card ExtField = Config.p ^ 2 := by
    rw [← Nat.card_eq_fintype_card, Module.natCard_eq_pow_finrank (K := ZMod Config.p), Nat.card_zmod,
      QuadraticAlgebra.finrank_eq_two]
  rw [← pow_mul, ← sq, ← hcard, FiniteField.pow_card]

/-- The α of R318 for a square `y²` is `y^(p-1)`. -/
theorem toExt_alpha_mul {a a1 y : Fp2} (ha1 : a1 = fp2Pow a ((Config.p - 3) / 4)) (hy : fp2Mul y y = a) :
    toExt (fp2Mul (fp2Mul a1 a1) a) * toExt y = toExt y ^ Config.p := by
  subst ha1 hy
  have hp : 4 * ((Config.p - 3) / 4) + 3 = Config.p := by decide +kernel
  rw [toExt_fp2Mul, toExt_fp2Mul, toExt_fp2Pow _ (by decide +kernel), toExt_fp2Mul]
  generalize (Config.p - 3) / 4 = k at hp
  calc _ = toExt y ^ (4 * k + 3) := by ring
    _ = toExt y ^ Config.p := by rw [hp]

/-- The square of R318's x0 is α times the operand. -/
theorem toExt_x0_mul_self (a a1 : Fp2) :
    toExt (fp2Mul a1 a) * toExt (fp2Mul a1 a) = toExt (fp2Mul (fp2Mul a1 a1) a) * toExt a := by
  simp only [toExt_fp2Mul]
  ring

/-- Why the second branch of R318 finds a root: with `α·y = y^p` and `y^(p²) = y`, `(α + 1)^(p-1)·α` is 1 on `y²`. -/
theorem add_one_pow_mul_square {K : Type} [CommRing K] [IsDomain K] {p : Nat} [Fact p.Prime] [CharP K p] {y α : K}
    (hy : (y ^ p) ^ p = y) (hα : α * y = y ^ p) (hne : α + 1 ≠ 0) : (α + 1) ^ (p - 1) * (α * (y * y)) = y * y := by
  have hp : p - 1 + 1 = p := Nat.sub_add_cancel (Fact.out : p.Prime).one_le
  refine mul_left_cancel₀ hne ?_
  calc (α + 1) * ((α + 1) ^ (p - 1) * (α * (y * y))) = (α ^ p + 1) * (α * (y * y)) := by
        rw [← mul_assoc, ← pow_succ', hp, add_pow_char, one_pow]
    _ = α ^ p * (α * y) * y + α * (y * y) := by ring
    _ = (α + 1) * (y * y) := by rw [hα, ← mul_pow, hα, hy]; ring

/-- The candidate root in the two branches of R318. -/
theorem fp2Root_eq (a : Fp2) :
    let a1 := fp2Pow a ((Config.p - 3) / 4)
    let alpha := fp2Mul (fp2Mul a1 a1) a
    let x0 := fp2Mul a1 a
    fp2Root a = if alpha = ⟨Config.p - 1, 0⟩ then ⟨(Config.p - x0.c1) % Config.p, x0.c0⟩
      else fp2Mul (fp2Pow (fp2Add alpha ⟨1, 0⟩) ((Config.p - 1) / 2)) x0 := by
  intro a1 alpha x0
  rw [show (Config.p - x0.c1) % Config.p = fpNeg x0.c1 by rw [fpNeg, negMod, Nat.mod_eq_of_lt (canonical_fp2Mul _ _).c1]]
  simp only [fp2Root, fp2Sqr_eq_fp2Mul, fp2One, a1, alpha, x0]

/-- The first branch of R318: multiplying by u changes the sign of the square. -/
theorem toExt_mul_u_mul_self (x : Fp2) :
    toExt ⟨fpNeg x.c1, x.c0⟩ * toExt ⟨fpNeg x.c1, x.c0⟩ = -(toExt x * toExt x) := by
  ext <;> simp [cast_fpNeg]

/-- The candidate of a square is its root, in either branch of R318. -/
theorem fp2Sqr_fp2Root {a y : Fp2} (ha : a.Canonical) (hy : fp2Mul y y = a) : fp2Sqr (fp2Root a) = a := by
  have := fact_p
  have := fact_neg_one_not_square
  have : CharP ExtField Config.p := charP_of_injective_algebraMap' (ZMod Config.p) Config.p
  rw [fp2Sqr_eq_fp2Mul]
  refine eq_of_toExt_eq (canonical_fp2Mul _ _) ha ?_
  rw [toExt_fp2Mul]
  simp only [fp2Root, fp2Sqr_eq_fp2Mul]
  generalize ha1 : fp2Pow a ((Config.p - 3) / 4) = a1
  have halpha := toExt_alpha_mul ha1.symm hy
  split
  case isTrue hneg => rw [toExt_mul_u_mul_self, toExt_x0_mul_self, hneg, toExt_neg_one, neg_one_mul, neg_neg]
  case isFalse hneg =>
    have hne : toExt (fp2Mul (fp2Mul a1 a1) a) + 1 ≠ 0 := fun h0 => hneg <| eq_of_toExt_eq (canonical_fp2Mul _ _)
      ⟨Nat.sub_lt p_pos one_pos, p_pos⟩ ((eq_neg_of_add_eq_zero_left h0).trans toExt_neg_one.symm)
    have hexp : (Config.p - 1) / 2 + (Config.p - 1) / 2 = Config.p - 1 := by decide +kernel
    have hy' : toExt a = toExt y * toExt y := by rw [← hy, toExt_fp2Mul]
    rw [toExt_fp2Mul, toExt_fp2Pow _ (by decide +kernel), toExt_fp2Add, toExt_fp2One, mul_mul_mul_comm, ← pow_add, hexp,
      toExt_x0_mul_self, hy', add_one_pow_mul_square (pow_p_pow_p _) halpha hne]

theorem fp2Sqrt?_of_not_square {a : Fp2} (h : ¬∃ y, fp2Mul y y = a) : fp2Sqrt? a = none :=
  if_neg fun hroot => h ⟨fp2Root a, (fp2Sqr_eq_fp2Mul _).symm.trans hroot⟩

/-- Settles O37: the candidate of a square is its root, and where the candidate is a root there is one. -/
theorem fp2SquareRootFindsEverySquare : Obligations.Fp2SquareRootFindsEverySquare := by
  intro s d a h0 h1
  refine ⟨decode_word, ?_⟩
  intro a1 alpha x0 root
  have hroot : fp2Root (s.opE a) = root := fp2Root_eq _
  refine ⟨fun ⟨y, hy⟩ => ?_, fun h => exec_of_fail (k := .notASquare) ?_⟩
  · have hsqr := fp2Sqr_fp2Root ⟨h0, h1⟩ hy
    have hcanon := canonical_fp2Root (s.opE a)
    refine hroot ▸ ⟨exec_of_writeE (congrArg (Effect.orFail _ _) (if_pos hsqr)), ?_, hcanon.c0, hcanon.c1⟩
    rw [← fp2Sqr_eq_fp2Mul, hsqr]
  · exact congrArg (Effect.orFail _ _) (fp2Sqrt?_of_not_square h)

end Sys2Proof.Machine
end

section
/-! The ScalarField family (42_scalar.md R353 to R368): each command's effect against its rule, and in the field `ZMod r` what the
inverse and the square root compute. -/

namespace Sys2Proof.Machine

open Spec

theorem exec_of_writeS {i : Instr} {s : State} {d : SReg} {v : Nat} (h : effect s.operands i = .writeS d v) :
    exec i s = .next (putS s d v) := by
  rw [exec_eq, h]; rfl

/-! ## Constants, moves, predicates and the ring (R353 to R362, R365) -/

/-- Settles O39: each command's effect is the rule's own expression. -/
theorem scConstantsMovesAndPredicates : Obligations.ScConstantsMovesAndPredicates := fun _ _ _ _ =>
  ⟨decode_word, exec_of_writeS rfl,
    decode_word, exec_of_writeS rfl,
    decode_word, exec_of_writeS rfl,
    decode_word, exec_of_writeFlag rfl,
    decode_word, exec_of_writeFlag rfl⟩

theorem scPow_eq (a : Nat) {e : Nat} (he : e < 2 ^ 256) : scPow a e = a ^ e % Config.r := powMod_eq one_lt_r he

/-- Settles O40: each command writes what its modular operation computes, which is the residue of the exact integer. -/
theorem scRingCommandsComputeModR : Obligations.ScRingCommandsComputeModR := fun _ _ _ _ =>
  ⟨decode_word, exec_of_writeS (congrArg _ (addMod_eq_residue _ _ _)),
    decode_word, exec_of_writeS (congrArg _ (subMod_eq_residue r_pos _ _)),
    decode_word, exec_of_writeS (congrArg _ (negMod_eq_residue r_pos _)),
    decode_word, exec_of_writeS (congrArg _ (mulMod_eq_residue _ _ _)),
    decode_word, exec_of_writeS (congrArg _ (sqrMod_eq_residue _ _)), rfl,
    decode_word, fun he => exec_of_writeS (congrArg _ (scPow_eq _ he))⟩

/-! ## The inverse (R363) -/

theorem mod_eq_one_iff_cast {m n : Nat} (hm : 1 < m) : n % m = 1 ↔ (n : ZMod m) = 1 := by
  rw [← Nat.cast_one (R := ZMod m), ZMod.natCast_eq_natCast_iff', Nat.mod_eq_of_lt hm]

theorem mul_mod_r_eq_one_iff_eq_scInv {a v : Nat} (h0 : a ≠ 0) (ha : a < Config.r) (hv : v < Config.r) :
    a * v % Config.r = 1 ↔ v = scInv a := by
  have := fact_r
  have hne := cast_ne_zero_of_lt h0 ha
  rw [mod_eq_one_iff_cast one_lt_r, Nat.cast_mul, mul_comm, mul_eq_one_iff_eq_inv₀ hne, ← cast_scInv]
  exact ⟨eq_of_cast_eq hv (scInv_lt a), congrArg _⟩

/-- Settles O41: below r the equation `S[a]·v ≡ 1` has the one solution `scInv`. -/
theorem scInverseIsTheUniqueInverse : Obligations.ScInverseIsTheUniqueInverse := by
  refine fun s d a ha => ⟨decode_word, fun h0 => exec_of_fail (if_pos h0), fun h0 => ?_⟩
  have hinv : s.opS a * scInv (s.opS a) % Config.r = 1 := (mul_mod_r_eq_one_iff_eq_scInv h0 ha (scInv_lt _)).2 rfl
  have hpos : scInv (s.opS a) ≠ 0 := fun hz => by simp [hz] at hinv
  exact ⟨scInv (s.opS a), Nat.one_le_iff_ne_zero.2 hpos, scInv_lt _, hinv, exec_of_writeS (if_neg h0),
    fun v hv => (mul_mod_r_eq_one_iff_eq_scInv h0 ha hv).1⟩

/-! ## The square root (R364) -/

theorem cast_scMul (a b : Nat) : ((scMul a b : Nat) : ZMod Config.r) = a * b := cast_mulMod _ a b

theorem cast_scSqr (a : Nat) : ((scSqr a : Nat) : ZMod Config.r) = (a : ZMod Config.r) ^ 2 := by
  rw [sq]; exact cast_mulMod _ a a

theorem cast_scPow (a : Nat) {e : Nat} (he : e < 2 ^ 256) : ((scPow a e : Nat) : ZMod Config.r) = (a : ZMod Config.r) ^ e := by
  rw [scPow_eq a he, ZMod.natCast_mod, Nat.cast_pow]

/-- The loop's test, in the field. -/
theorem powMod_r_eq_one_iff {t e n : Nat} (he : e < 2 ^ n) : powMod Config.r t e n = 1 ↔ (t : ZMod Config.r) ^ e = 1 := by
  rw [powMod_eq one_lt_r he, mod_eq_one_iff_cast one_lt_r, Nat.cast_pow]

theorem tonelliLoop_lt {root : Nat} (k c t : Nat) (h : root < Config.r) : tonelliLoop k c t root < Config.r := by
  induction k generalizing c t root with
  | zero => exact h
  | succ k ih =>
    rw [tonelliLoop]
    split
    · exact ih _ _ h
    · exact ih _ _ (mulMod_lt r_pos _ _)

/-- The loop's invariant and what it ends in: from `root² = x·t` with `t^(2^k) = 1` and `c^(2^k) = -1` the loop finds a root of x. A
t that fails the test has `t^(2^(k-1)) = -1`, and the factor `c²` turns that power to 1. -/
theorem cast_tonelliLoop_sq {x : ZMod Config.r} {k c t root : Nat} (hk : k ≤ 32)
    (hroot : (root : ZMod Config.r) ^ 2 = x * t) (ht : (t : ZMod Config.r) ^ 2 ^ k = 1) (hc : (c : ZMod Config.r) ^ 2 ^ k = -1) :
    (tonelliLoop k c t root : ZMod Config.r) ^ 2 = x := by
  have := fact_r
  induction k generalizing c t root with
  | zero =>
    rw [pow_zero, pow_one] at ht
    rw [tonelliLoop, hroot, ht, mul_one]
  | succ k ih =>
    have hc' : (scSqr c : ZMod Config.r) ^ 2 ^ k = -1 := by rw [cast_scSqr, ← pow_mul, ← pow_succ', hc]
    rw [tonelliLoop]
    simp only [powMod_r_eq_one_iff (Nat.pow_lt_pow_right Nat.one_lt_two hk)]
    split
    case isTrue htest => exact ih (by omega) hroot htest hc'
    case isFalse htest =>
      have hneg : (t : ZMod Config.r) ^ 2 ^ k = -1 := by
        rw [pow_succ, pow_mul] at ht
        exact (sq_eq_one_iff.1 ht).resolve_left htest
      refine ih (by omega) ?_ ?_ hc'
      · rw [cast_scMul, cast_scMul, cast_scSqr, mul_pow, hroot, mul_assoc]
      · rw [cast_scMul, mul_pow, hneg, hc', neg_mul_neg, one_mul]

theorem scRoot_lt (a : Nat) : scRoot a < Config.r := tonelliLoop_lt _ _ _ (scPow_lt _ _)

/-- The loop's first c generates the elements of order `2^32`, because 5 is a non-residue. -/
theorem cast_generator_pow : (scPow 5 scOddPart : ZMod Config.r) ^ 2 ^ 31 = -1 := by
  have hpow : scPow (scPow 5 scOddPart) (2 ^ 31) + 1 = Config.r := by decide +kernel
  rw [← cast_scPow _ (by decide), eq_neg_iff_add_eq_zero, ← Nat.cast_one, ← Nat.cast_add, hpow, ZMod.natCast_self]

theorem cast_scRoot_sq {a : Nat} (h : a ^ ((Config.r - 1) / 2) % Config.r = 1) : (scRoot a : ZMod Config.r) ^ 2 = a := by
  rw [mod_eq_one_iff_cast one_lt_r, Nat.cast_pow] at h
  have hodd : scOddPart < 2 ^ 256 := by decide +kernel
  have hhalf : (scOddPart + 1) / 2 < 2 ^ 256 := by decide +kernel
  refine cast_tonelliLoop_sq (by omega) ?_ ?_ cast_generator_pow
  · have hexp : (scOddPart + 1) / 2 * 2 = scOddPart + 1 := by decide +kernel
    rw [cast_scPow a hhalf, cast_scPow a hodd, ← pow_mul, hexp, pow_succ']
  · have hexp : scOddPart * 2 ^ 31 = (Config.r - 1) / 2 := by decide +kernel
    rw [cast_scPow a hodd, ← pow_mul, hexp, h]

theorem exists_mul_self_mod_eq_iff {m a : Nat} (ha : a < m) : (∃ y, y * y % m = a) ↔ IsSquare (a : ZMod m) := by
  have := NeZero.of_gt ha
  constructor
  · rintro ⟨y, rfl⟩
    exact ⟨y, by rw [ZMod.natCast_mod, Nat.cast_mul]⟩
  · rintro ⟨z, hz⟩
    refine ⟨z.val, eq_of_cast_eq (Nat.mod_lt _ (Nat.zero_lt_of_lt ha)) ha ?_⟩
    rw [ZMod.natCast_mod, Nat.cast_mul, ZMod.natCast_zmod_val, hz]

/-- Euler's criterion, as R364 tests it. -/
theorem exists_mul_self_mod_r_eq_iff {a : Nat} (ha : a < Config.r) (h0 : a ≠ 0) :
    (∃ y, y * y % Config.r = a) ↔ a ^ ((Config.r - 1) / 2) % Config.r = 1 := by
  have := fact_r
  have hexp : Config.r / 2 = (Config.r - 1) / 2 := by decide +kernel
  rw [exists_mul_self_mod_eq_iff ha, ZMod.euler_criterion _ (cast_ne_zero_of_lt h0 ha), hexp,
    mod_eq_one_iff_cast one_lt_r, Nat.cast_pow]

theorem scIsSquare_iff {a : Nat} : scIsSquare a = true ↔ a ^ ((Config.r - 1) / 2) % Config.r = 1 := by
  rw [scIsSquare, decide_eq_true_iff, powMod_eq one_lt_r (by decide +kernel)]

/-- The smaller of a root and its negative is a root. -/
theorem cast_min_sub_sq {m x : Nat} (hx : x ≤ m) : ((min x (m - x) : Nat) : ZMod m) ^ 2 = (x : ZMod m) ^ 2 := by
  rcases min_choice x (m - x) with h | h <;> rw [h]
  rw [Nat.cast_sub hx, ZMod.natCast_self, zero_sub, neg_sq]

/-- A square has a root in the lower half, and the command's function answers it. -/
theorem scSqrt?_of_square {a : Nat} (ha : a < Config.r) (h : ∃ y, y * y % Config.r = a) :
    ∃ v, v ≤ (Config.r - 1) / 2 ∧ v * v % Config.r = a ∧ scSqrt? a = some v := by
  by_cases h0 : a = 0
  · exact ⟨0, Nat.zero_le _, by rw [h0, Nat.zero_mod], if_pos h0⟩
  · have hpow := (exists_mul_self_mod_r_eq_iff ha h0).1 h
    have hodd : Config.r % 2 = 1 := by decide +kernel
    refine ⟨min (scRoot a) (Config.r - scRoot a), by omega, eq_of_cast_eq (Nat.mod_lt _ r_pos) ha ?_, ?_⟩
    · rw [ZMod.natCast_mod, Nat.cast_mul, ← sq, cast_min_sub_sq (scRoot_lt a).le, cast_scRoot_sq hpow]
    · rw [scSqrt?, if_neg h0, if_pos (scIsSquare_iff.2 hpow)]

theorem ne_zero_of_not_square {m a : Nat} (h : ¬∃ y, y * y % m = a) : a ≠ 0 := fun h0 => h ⟨0, by rw [h0, Nat.zero_mod]⟩

theorem scSqrt?_of_not_square {a : Nat} (ha : a < Config.r) (h : ¬∃ y, y * y % Config.r = a) : scSqrt? a = none := by
  have h0 := ne_zero_of_not_square h
  have hno : ¬scIsSquare a = true := by rwa [scIsSquare_iff, ← exists_mul_self_mod_r_eq_iff ha h0]
  rw [scSqrt?, if_neg h0, if_neg hno]

/-- Settles O42: Tonelli–Shanks finds a root wherever Euler's criterion has one, and the criterion is exact. -/
theorem scSquareRootIsTheSmallerRoot : Obligations.ScSquareRootIsTheSmallerRoot := by
  refine fun s d a ha => ⟨decode_word, fun h => ?_, fun h => exec_of_fail (k := .notASquare) ?_, fun h => ?_, fun ⟨h0, h⟩ => ?_⟩
  · obtain ⟨v, hle, hsq, hv⟩ := scSqrt?_of_square ha h
    exact ⟨v, hle, hsq, exec_of_writeS (congrArg (Effect.orFail _ _) hv)⟩
  · exact congrArg (Effect.orFail _ _) (scSqrt?_of_not_square ha h)
  · have h0 := ne_zero_of_not_square h
    exact ⟨h0, (exists_mul_self_mod_r_eq_iff ha h0).not.1 h⟩
  · exact (exists_mul_self_mod_r_eq_iff ha h0).not.2 h

/-! ## The byte codec (R366 to R368) -/

theorem leInt_bufRead (m : Memory) (off n : Nat) : leInt (bufRead m off n) = leInteger m off n := by
  rw [leInt_eq_sum, length_bufRead, leInteger]
  exact Finset.sum_congr rfl fun k hk => by rw [getD_bufRead (Finset.mem_range.1 hk)]

theorem toNat_bufByte_bufWrite_leBytes {m : Memory} {n v k : Nat} (hm : Memory.wf m = true) (hn : n ≤ bufSize) (hk : k < n) :
    (bufByte (bufWrite m 0 (leBytes n v)) k).toNat = v / 256 ^ k % 256 := by
  have hbyte := bufByte_bufWrite_inside (bs := leBytes n v) hm (off := 0) (by simpa using hn) (by simpa using hk)
  rw [Nat.zero_add, getD_leBytes hk] at hbyte
  rw [hbyte, BitVec.toNat_ofNat]

/-- Settles O43: the bytes written, and the integers read. -/
theorem scByteCodec : Obligations.ScByteCodec := by
  refine ⟨fun s a _ hwf => ⟨decode_word, _, exec_of_writeBuf rfl, bufWrite_wf hwf,
      fun k hk => toNat_bufByte_bufWrite_leBytes hwf (by decide) hk, fun k hk => bufByte_bufWrite_above (by simpa using hk)⟩,
    fun s d => ⟨decode_word, fun h => exec_of_writeS ?_, fun h => exec_of_fail (k := .malformedEncoding) ?_, decode_word,
      exec_of_writeS ?_⟩⟩
  · rw [effect, leInt_bufRead, if_neg (Nat.not_le.2 h)]
  · rw [effect, leInt_bufRead, if_pos h]
  · rw [effect, leInt_bufRead]

end Sys2Proof.Machine
end

section
/-! The AffinePoint family but for its codec (43_affine.md R403 to R415, 44_projective.md R476, R477, R490): moves, coordinates,
predicates, maps and the two conversions, each by its effect, and what the checked decoders make of a decoded point. -/

namespace Sys2Proof.Machine

open Spec

section
variable {i : Instr} {s : State}

theorem exec_of_writeA {d : AReg} {v : Affine} (h : effect s.operands i = .writeA d v) : exec i s = .next (putA s d v) := by
  rw [exec_eq, h]; rfl

theorem exec_of_writeP {d : PReg} {v : Proj} (h : effect s.operands i = .writeP d v) : exec i s = .next (putP s d v) := by
  rw [exec_eq, h]; rfl

/-- A decoder that decodes stores the point. -/
theorem exec_of_decoded {d : AReg} {q : Option Affine} {A : Affine}
    (h : effect s.operands i = .orFail .malformedEncoding (.writeA d) q) (hq : q = some A) : exec i s = .next (putA s d A) := by
  subst hq
  exact exec_of_writeA h

/-- A decoder that does not decode raises MALFORMED_ENCODING. -/
theorem exec_of_not_decoded {d : AReg} {q : Option Affine}
    (h : effect s.operands i = .orFail .malformedEncoding (.writeA d) q) (hq : q = none) : exec i s = .next (failed s 3) := by
  subst hq
  exact exec_of_fail (k := .malformedEncoding) h

end

/-! ## Constants, moves and coordinates (R403 to R409) -/

/-- Settles O44: each command's effect is the rule's own expression. -/
theorem paConstantsMovesAndCoordinates : Obligations.PaConstantsMovesAndCoordinates := fun _ _ _ _ _ =>
  ⟨decode_word, exec_of_writeA rfl,
    decode_word, exec_of_writeA rfl,
    decode_word, exec_of_writeA rfl,
    decode_word, exec_of_writeA rfl,
    decode_word, exec_of_writeF rfl,
    decode_word, exec_of_writeF rfl,
    decode_word, exec_of_writeFlag rfl⟩

/-! ## Predicates and maps (R410 to R414) -/

/-- The left side of the curve test is the residue of `y² - x³`. -/
theorem fpSub_sqr_cube_eq_residue (x y : Nat) :
    fpSub (fpSqr y) (fpMul (fpSqr x) x) = residue Config.p ((y : Int) ^ 2 - (x : Int) ^ 3) := by
  refine (residue_eq_of_cast (fpSub_lt _ _) ?_).symm
  rw [cast_fpSub, cast_fpSqr, cast_fpMul, cast_fpSqr, ← pow_succ]
  push_cast
  rfl

theorem affOnCurve_eq_residue (A : Affine) :
    affOnCurve A = (A.inf || decide (residue Config.p ((A.y : Int) ^ 2 - (A.x : Int) ^ 3) = 4)) := by
  rw [affOnCurve, fpSub_sqr_cube_eq_residue, Config.b]

theorem endo_eq_residue (A : Affine) : endo A = ⟨residue Config.p ((A.x : Int) * Config.beta), A.y, A.inf⟩ := by
  rw [endo, fpMul, mulMod_eq_residue]

theorem affNeg_eq_residue (A : Affine) :
    affNeg A = ⟨A.x, if A.inf then 1 else residue Config.p ((Config.p : Int) - A.y), A.inf⟩ := by
  rw [affNeg, fpNeg, negMod_eq_residue p_pos]

/-- β is a cube root of 1, so three endomorphisms in a row give the point back. -/
theorem endo_endo_endo {A : Affine} (hx : A.x < Config.p) : endo (endo (endo A)) = A := by
  have hbeta : (Config.beta : ZMod Config.p) ^ 3 = 1 := by
    rw [← Nat.cast_pow, ← mod_eq_one_iff_cast one_lt_p]
    exact beta_nontrivial_cube_root.1
  have hcube : fpMul (fpMul (fpMul A.x Config.beta) Config.beta) Config.beta = A.x := by
    refine eq_of_cast_eq (fpMul_lt _ _) hx ?_
    calc _ = (A.x : ZMod Config.p) * (Config.beta : ZMod Config.p) ^ 3 := by simp only [cast_fpMul]; ring
      _ = A.x := by rw [hbeta, mul_one]
  rw [endo, endo, endo, hcube]

theorem fpNeg_fpNeg {y : Nat} (hy : y < Config.p) : fpNeg (fpNeg y) = y :=
  eq_of_cast_eq (fpNeg_lt _) hy (by rw [cast_fpNeg, cast_fpNeg, neg_neg])

theorem affNeg_affNeg {A : Affine} (h : A.Canonical) : affNeg (affNeg A) = A := by
  cases hi : A.inf with
  | true => rw [h.identity hi]; rfl
  | false =>
    obtain ⟨x, y, inf⟩ := A
    subst hi
    exact congrArg (Affine.mk x · false) (fpNeg_fpNeg h.y)

/-- Settles O45: the effects as the rules write them, and the two maps undone. -/
theorem paPredicatesAndMaps : Obligations.PaPredicatesAndMaps :=
  ⟨fun _ _ _ _ =>
    ⟨decode_word, exec_of_writeFlag (congrArg _ (affOnCurve_eq_residue _)),
      decode_word, exec_of_writeFlag rfl,
      decode_word, exec_of_writeFlag rfl,
      decode_word, exec_of_writeA (congrArg _ (endo_eq_residue _)),
      decode_word, exec_of_writeA (congrArg _ (affNeg_eq_residue _))⟩,
    fun _ hx hy hid => ⟨endo_endo_endo hx, affNeg_affNeg ⟨hx, hy, hid⟩⟩⟩

/-! ## Conversions (R415, R476, R477, R490) -/

theorem toAffine_of_Z_eq_zero {P : Proj} (h : P.Z = 0) : toAffine P = ⟨0, 1, true⟩ := if_pos h

theorem toAffine_of_Z_ne_zero {P : Proj} (h : P.Z ≠ 0) :
    toAffine P = ⟨fpMul P.X (fpInv P.Z), fpMul P.Y (fpInv P.Z), false⟩ := if_neg h

/-- Below p the equation `v·z ≡ c` has the one solution c/z. -/
theorem mul_mod_eq_iff_eq_div {v z c : Nat} (h0 : z ≠ 0) (hz : z < Config.p) (hv : v < Config.p) (hc : c < Config.p) :
    v * z % Config.p = c ↔ v = fpMul c (fpInv z) := by
  have := fact_p
  have hne := cast_ne_zero_of_lt h0 hz
  have hcast : v * z % Config.p = c ↔ (v : ZMod Config.p) * z = c := by
    rw [← Nat.cast_mul, ZMod.natCast_eq_natCast_iff', Nat.mod_eq_of_lt hc]
  rw [hcast, ← eq_mul_inv_iff_mul_eq₀ hne, ← cast_fpInv, ← cast_fpMul]
  exact ⟨eq_of_cast_eq hv (fpMul_lt _ _), congrArg _⟩

/-- Settles O46: the promotion by its effect, and the quotients by Z as the one solution each. -/
theorem pointConversions : Obligations.PointConversions := by
  refine ⟨fun _ _ _ => ⟨decode_word, exec_of_writeP rfl⟩, fun s d a hX hY hZ => ⟨decode_word,
    fun h0 => exec_of_writeA (congrArg _ (toAffine_of_Z_eq_zero h0)), fun h0 => ?_⟩⟩
  have hdiv {v c : Nat} (hv : v < Config.p) (hc : c < Config.p) := mul_mod_eq_iff_eq_div h0 hZ hv hc
  exact ⟨_, _, fpMul_lt _ _, fpMul_lt _ _, (hdiv (fpMul_lt _ _) hX).2 rfl, (hdiv (fpMul_lt _ _) hY).2 rfl,
    exec_of_writeA (congrArg _ (toAffine_of_Z_ne_zero h0)), fun v hv => ⟨(hdiv hv hX).1, (hdiv hv hY).1⟩⟩

/-! ## The decoders' effects (R421, R422, R424, R425) -/

section
variable (s : State) (d : AReg)

theorem effect_paFromcomp : effect s.operands (.paFromcomp d) =
    .orFail .malformedEncoding (.writeA d) (validated (decodeCompressedUnchecked (s.opBuf 48))) := by
  rw [effect, State.opBuf]

theorem effect_paFromcompu : effect s.operands (.paFromcompu d) =
    .orFail .malformedEncoding (.writeA d) (decodeCompressedUnchecked (s.opBuf 48)) := by
  rw [effect, State.opBuf]

theorem effect_paFromuncomp : effect s.operands (.paFromuncomp d) =
    .orFail .malformedEncoding (.writeA d) (validated (decodeUncompressedUnchecked (s.opBuf 96))) := by
  rw [effect, State.opBuf]

theorem effect_paFromuncompu : effect s.operands (.paFromuncompu d) =
    .orFail .malformedEncoding (.writeA d) (decodeUncompressedUnchecked (s.opBuf 96)) := by
  rw [effect, State.opBuf]

end

/-! ## Decode, then validate (R422, R425) -/

theorem validated_of_valid {A : Affine} (hcurve : affOnCurve A = true) (htorsion : torsionFree A = true) :
    validated (some A) = some A :=
  if_pos (Bool.and_eq_true_iff.2 ⟨hcurve, htorsion⟩)

theorem validated_of_not_valid {A : Affine} (h : affOnCurve A = false ∨ torsionFree A = false) : validated (some A) = none :=
  if_neg (Bool.not_eq_true _ ▸ Bool.and_eq_false_iff.2 h)

/-- What a command does that stores a validated point: it accepts a valid one and rejects everything else. -/
theorem exec_of_validated {i : Instr} {s : State} {d : AReg} {q : Option Affine}
    (h : effect s.operands i = .orFail .malformedEncoding (.writeA d) (validated q)) :
    (∀ A, q = some A → affOnCurve A = true → torsionFree A = true → exec i s = .next (putA s d A)) ∧
      (∀ A, q = some A → affOnCurve A = false ∨ torsionFree A = false → exec i s = .next (failed s 3)) ∧
      (q = none → exec i s = .next (failed s 3)) := by
  refine ⟨?_, ?_, ?_⟩
  · rintro A rfl hcurve htorsion
    exact exec_of_decoded h (validated_of_valid hcurve htorsion)
  · rintro A rfl hbad
    exact exec_of_not_decoded h (validated_of_not_valid hbad)
  · rintro rfl
    exact exec_of_not_decoded h rfl

/-- Settles O49: both checked decoders store a validated point. -/
theorem checkedDecodersValidate : Obligations.CheckedDecodersValidate := by
  intro s d
  obtain ⟨hcomp, hcompBad, hcompNone⟩ := exec_of_validated (effect_paFromcomp s d)
  obtain ⟨huncomp, huncompBad, huncompNone⟩ := exec_of_validated (effect_paFromuncomp s d)
  exact ⟨decode_word, decode_word, hcomp, hcompBad, hcompNone, huncomp, huncompBad, huncompNone⟩

end Sys2Proof.Machine
end

section
/-! Flag bits in byte sequences (43_affine.md R401, R402): byte 0 of a big-endian encoding is the integer's leading digit, so setting,
masking and reading its three top bits are operations on the integer. -/

namespace Sys2Proof.Machine

/-! ## Big-endian sequences, cut and joined -/

theorem leBytes_mod (n v : Nat) : leBytes n (v % 256 ^ n) = leBytes n v := by
  have h := leBytes_leInt (leBytes n v)
  rwa [length_leBytes, leInt_leBytes_mod] at h

theorem beBytes_add_mul (n v k : Nat) : beBytes n (v + k * 256 ^ n) = beBytes n v := by
  rw [beBytes, ← leBytes_mod, Nat.add_mul_mod_self_right, leBytes_mod, beBytes]

theorem beBytes_add (a b v : Nat) : beBytes (a + b) v = beBytes a (v / 256 ^ b) ++ beBytes b v := by
  rw [beBytes, Nat.add_comm, leBytes_add, List.reverse_append, beBytes, beBytes]

theorem add_mul_div_self_of_lt {v m : Nat} (hv : v < m) (k : Nat) : (v + k * m) / m = k := by
  rw [Nat.add_mul_div_right _ _ (Nat.zero_lt_of_lt hv), Nat.div_eq_of_lt hv, Nat.zero_add]

theorem beBytes_append (a v : Nat) {b w : Nat} (hw : w < 256 ^ b) :
    beBytes a v ++ beBytes b w = beBytes (a + b) (w + v * 256 ^ b) := by
  rw [beBytes_add, add_mul_div_self_of_lt hw, beBytes_add_mul]

theorem beBytes_succ (n v : Nat) : beBytes (n + 1) v = BitVec.ofNat 8 (v / 256 ^ n) :: beBytes n v := by
  rw [Nat.add_comm, beBytes_add]
  rfl

theorem leInt_append (as bs : List Byte) : leInt (as ++ bs) = leInt as + 256 ^ as.length * leInt bs := by
  induction as with
  | nil => simp [leInt]
  | cons a as ih => rw [List.cons_append, leInt, ih, leInt, List.length_cons, Nat.pow_succ']; ring

theorem beInt_cons (v : Byte) (bs : List Byte) : beInt (v :: bs) = beInt bs + 256 ^ bs.length * v.toNat := by
  rw [beInt, List.reverse_cons, leInt_append, List.length_reverse, beInt]
  rfl

theorem bufRead_add (m : Memory) (off a b : Nat) : bufRead m off (a + b) = bufRead m off a ++ bufRead m (off + a) b := by
  induction a generalizing off with
  | zero => simp [bufRead]
  | succ a ih => rw [Nat.add_right_comm, bufRead, ih, bufRead, List.cons_append, Nat.add_right_comm, Nat.add_assoc]

/-! ## Flags set -/

theorem orFirst_orFirst (a b : Byte) (bs : List Byte) : orFirst a (orFirst b bs) = orFirst (b ||| a) bs := by
  cases bs with
  | nil => rfl
  | cons v bs => rw [orFirst, orFirst, orFirst, BitVec.or_assoc]

/-- Below 32 in byte 0, the flags f are added to the integer at the three top bits. -/
theorem orFirst_beBytes {n v : Nat} (f : Nat) (hv : v < 256 ^ n * 2 ^ 5) :
    orFirst (BitVec.ofNat 8 (2 ^ 5 * f)) (beBytes (n + 1) v) = beBytes (n + 1) (v + 2 ^ 5 * f * 256 ^ n) := by
  have hhead : v / 256 ^ n < 2 ^ 5 := Nat.div_lt_of_lt_mul hv
  rw [beBytes_succ, beBytes_succ, orFirst, beBytes_add_mul, Nat.add_mul_div_right _ _ (by positivity), Nat.add_comm (_ / _),
    Nat.two_pow_add_eq_or_of_lt hhead, ← BitVec.ofNat_or, Nat.or_comm]

/-! ## Flags read and masked -/

theorem beInt_dropFlags_cons (v : Byte) (bs : List Byte) :
    beInt (dropFlags (v :: bs)) = beInt (v :: bs) % (256 ^ bs.length * 2 ^ 5) := by
  have hv : (v &&& 0x1F).toNat = v.toNat % 2 ^ 5 := Nat.and_two_pow_sub_one_eq_mod v.toNat 5
  rw [dropFlags, beInt_cons, beInt_cons, hv, Nat.mod_mul, Nat.add_mul_mod_self_left, Nat.mod_eq_of_lt (beInt_lt bs),
    Nat.add_mul_div_left _ _ (by positivity), Nat.div_eq_of_lt (beInt_lt bs), Nat.zero_add]

theorem testBit_beInt_cons (v : Byte) (bs : List Byte) (k : Nat) :
    (beInt (v :: bs)).testBit (8 * bs.length + k) = v.getLsbD k := by
  rw [Nat.add_comm, ← Nat.testBit_div_two_pow, Nat.pow_mul, show (2 ^ 8 : Nat) = 256 by rfl, beInt_cons,
    Nat.add_mul_div_left _ _ (by positivity), Nat.div_eq_of_lt (beInt_lt bs), Nat.zero_add]
  rfl

section
variable {bs : List Byte} (h : bs.length = 48)
include h

theorem beInt_dropFlags : beInt (dropFlags bs) = beInt bs % 2 ^ 381 := by
  obtain ⟨v, bs, rfl⟩ := List.exists_cons_of_length_eq_add_one h
  have hexp : 256 ^ 47 * 2 ^ 5 = 2 ^ 381 := by decide +kernel
  rw [beInt_dropFlags_cons, Nat.succ.inj h, hexp]

theorem getLsbD_headD (k : Nat) : (bs.headD 0).getLsbD k = (beInt bs).testBit (376 + k) := by
  obtain ⟨v, bs, rfl⟩ := List.exists_cons_of_length_eq_add_one h
  have hbit := testBit_beInt_cons v bs k
  rw [Nat.succ.inj h] at hbit
  exact hbit.symm

theorem flagC_eq_testBit : flagC bs = (beInt bs).testBit 383 := getLsbD_headD h 7
theorem flagI_eq_testBit : flagI bs = (beInt bs).testBit 382 := getLsbD_headD h 6
theorem flagS_eq_testBit : flagS bs = (beInt bs).testBit 381 := getLsbD_headD h 5

end
end Sys2Proof.Machine
end

section
/-! The curve equation at an x coordinate (43_affine.md R410, R420): the two roots of `x³ + 4` are each other's negatives, neither is 0, so
the sort flag names exactly one of them; and with that, the inputs the two decoders accept (R420, R423). -/

namespace Sys2Proof.Machine

open Spec

/-- The y coordinate at x that the sort flag names: a root of `x³ + 4` with that sign (43_affine.md R420). -/
structure SignedRoot (x : Nat) (sort : Bool) (y : Nat) : Prop where
  lt : y < Config.p
  sq : y * y % Config.p = (x ^ 3 + 4) % Config.p
  lex : fpLexLargest y = sort

theorem curveRhs_eq (x : Nat) : curveRhs x = (x ^ 3 + 4) % Config.p := by
  refine eq_of_cast_eq (fpAdd_lt _ _) (Nat.mod_lt _ p_pos) ?_
  rw [curveRhs, cast_fpAdd, cast_fpMul, cast_fpSqr, ZMod.natCast_mod, ← pow_succ]
  push_cast
  rfl

theorem mul_self_mod_eq_iff {x y : Nat} :
    y * y % Config.p = (x ^ 3 + 4) % Config.p ↔ (y : ZMod Config.p) ^ 2 = (x : ZMod Config.p) ^ 3 + 4 := by
  rw [← ZMod.natCast_eq_natCast_iff', sq]
  push_cast
  rfl

theorem affOnCurve_finite_iff {x y : Nat} :
    affOnCurve ⟨x, y, false⟩ = true ↔ y * y % Config.p = (x ^ 3 + 4) % Config.p := by
  have hb : Config.b < Config.p := by decide
  rw [mul_self_mod_eq_iff, ← sub_eq_iff_eq_add']
  simp only [affOnCurve, Bool.false_or, decide_eq_true_eq]
  constructor
  · intro h
    have hcast := congrArg (Nat.cast (R := ZMod Config.p)) h
    rwa [cast_fpSub, cast_fpSqr, cast_fpMul, cast_fpSqr, ← pow_succ] at hcast
  · intro h
    refine eq_of_cast_eq (fpSub_lt _ _) hb ?_
    rwa [cast_fpSub, cast_fpSqr, cast_fpMul, cast_fpSqr, ← pow_succ]

/-- `-4` is no cube modulo p: its power `(p-1)/3` is not 1. -/
theorem cube_add_four_ne_zero (x : ZMod Config.p) : x ^ 3 + 4 ≠ 0 := by
  have := fact_p
  intro h
  have hcube : x ^ 3 = ((Config.p - 4 : Nat) : ZMod Config.p) := by
    rw [Nat.cast_sub (by decide), ZMod.natCast_self, zero_sub, eq_neg_of_add_eq_zero_left h, Nat.cast_ofNat]
  have hx : x ≠ 0 := by
    rintro rfl
    exact cast_ne_zero_of_lt (m := Config.p) (a := 4) (by decide) (by decide) (by simpa using h)
  have hexp : 3 * ((Config.p - 1) / 3) = Config.p - 1 := by decide +kernel
  have hpow : (((Config.p - 4) ^ ((Config.p - 1) / 3) : Nat) : ZMod Config.p) = 1 := by
    rw [Nat.cast_pow, ← hcube, ← pow_mul, hexp, ZMod.pow_card_sub_one_eq_one hx]
  rw [← mod_eq_one_iff_cast one_lt_p, ← powMod_eq one_lt_p (n := 384) (by decide +kernel)] at hpow
  exact absurd hpow (by decide +kernel)

theorem p_odd : Config.p % 2 = 1 := by decide +kernel

/-- Negation moves a nonzero value to the other half. -/
theorem fpLexLargest_fpNeg {y : Nat} (h0 : y ≠ 0) (hy : y < Config.p) : fpLexLargest (fpNeg y) = !fpLexLargest y := by
  have hodd := p_odd
  rw [fpNeg, negMod, Nat.mod_eq_of_lt hy, Nat.mod_eq_of_lt (by omega), fpLexLargest, fpLexLargest, ← decide_not]
  exact decide_eq_decide.2 (by omega)

theorem ne_zero_of_root {x y : Nat} (h : y * y % Config.p = (x ^ 3 + 4) % Config.p) : y ≠ 0 := by
  rintro rfl
  rw [mul_self_mod_eq_iff, Nat.cast_zero, zero_pow two_ne_zero] at h
  exact cube_add_four_ne_zero _ h.symm

theorem fpNeg_root {x y : Nat} (h : y * y % Config.p = (x ^ 3 + 4) % Config.p) :
    fpNeg y * fpNeg y % Config.p = (x ^ 3 + 4) % Config.p := by
  rwa [mul_self_mod_eq_iff, cast_fpNeg, neg_sq, ← mul_self_mod_eq_iff]

/-- Of a root and its negative one has the sort flag's sign. -/
theorem signedRoot_chooseRoot {x y : Nat} (sort : Bool) (hy : y < Config.p) (h : y * y % Config.p = (x ^ 3 + 4) % Config.p) :
    SignedRoot x sort (chooseRoot sort y) := by
  unfold chooseRoot
  split
  case isTrue hne =>
    refine ⟨fpNeg_lt y, fpNeg_root h, ?_⟩
    rw [fpLexLargest_fpNeg (ne_zero_of_root h) hy]
    exact Bool.not_eq_iff.2 (bne_iff_ne.1 hne)
  case isFalse heq => exact ⟨hy, h, by simpa using heq⟩

/-- And only one has. -/
theorem SignedRoot.unique {x y z : Nat} {sort : Bool} (hy : SignedRoot x sort y) (hz : SignedRoot x sort z) : y = z := by
  have := fact_p
  have hsq := (mul_self_mod_eq_iff.1 hy.sq).trans (mul_self_mod_eq_iff.1 hz.sq).symm
  rcases sq_eq_sq_iff_eq_or_eq_neg.1 hsq with h | h
  · exact eq_of_cast_eq hy.lt hz.lt h
  · have hneg : y = fpNeg z := eq_of_cast_eq hy.lt (fpNeg_lt z) (by rw [h, cast_fpNeg])
    have hlex := hy.lex
    rw [hneg, fpLexLargest_fpNeg (ne_zero_of_root hz.sq) hz.lt, hz.lex] at hlex
    cases sort <;> cases hlex

/-- The decoder's root search finds a root of `x³ + 4` where there is one. -/
theorem fpSqrt?_curveRhs_eq_some {x y : Nat} (h : fpSqrt? (curveRhs x) = some y) :
    y < Config.p ∧ y * y % Config.p = (x ^ 3 + 4) % Config.p := by
  refine ⟨fpSqrt?_lt h, ?_⟩
  rw [← curveRhs_eq]
  unfold fpSqrt? at h
  split at h
  case isTrue hroot =>
    cases h
    exact hroot
  case isFalse => cases h

theorem fpSqrt?_curveRhs_of_root {x y : Nat} (h : y * y % Config.p = (x ^ 3 + 4) % Config.p) :
    fpSqrt? (curveRhs x) = some (fpRoot (curveRhs x)) :=
  fpSqrt?_of_square (fpAdd_lt _ _) (h.trans (curveRhs_eq x).symm)

theorem exists_signedRoot {x y : Nat} (sort : Bool) (h : y * y % Config.p = (x ^ 3 + 4) % Config.p) :
    ∃ z, SignedRoot x sort z := by
  obtain ⟨hlt, hroot⟩ := fpSqrt?_curveRhs_eq_some (fpSqrt?_curveRhs_of_root h)
  exact ⟨_, signedRoot_chooseRoot sort hlt hroot⟩

/-! ## What the decoders accept -/

/-- The compressed decoder accepts the exact identity pattern, and with C alone of C and I the point at x that S names (R420). -/
theorem decodeCompressedUnchecked_eq_some_iff {bs : List Byte} {A : Affine} :
    decodeCompressedUnchecked bs = some A ↔ flagC bs = true ∧
      ((flagI bs = true ∧ flagS bs = false ∧ beInt (dropFlags bs) = 0 ∧ A = ⟨0, 1, true⟩) ∨
        (flagI bs = false ∧ beInt (dropFlags bs) < Config.p ∧
          ∃ y, SignedRoot (beInt (dropFlags bs)) (flagS bs) y ∧ A = ⟨beInt (dropFlags bs), y, false⟩)) := by
  unfold decodeCompressedUnchecked
  dsimp only
  generalize beInt (dropFlags bs) = x
  constructor
  · intro h
    split at h
    · cases h
    case isFalse hlt =>
      split at h
      case isTrue hid =>
        simp only [Bool.and_eq_true, Bool.not_eq_true', decide_eq_true_eq] at hid
        obtain ⟨⟨⟨hI, hC⟩, hS⟩, hx⟩ := hid
        exact ⟨hC, .inl ⟨hI, hS, hx, (Option.some.inj h).symm⟩⟩
      case isFalse =>
        split at h
        · cases h
        next y hy =>
          obtain ⟨hyp, hroot⟩ := fpSqrt?_curveRhs_eq_some hy
          split at h
          case isTrue hflags =>
            simp only [Bool.and_eq_true, Bool.not_eq_true'] at hflags
            obtain ⟨hI, hC⟩ := hflags
            exact ⟨hC, .inr ⟨hI, Nat.not_le.1 hlt, _, signedRoot_chooseRoot _ hyp hroot, (Option.some.inj h).symm⟩⟩
          case isFalse => cases h
  · rintro ⟨hC, ⟨hI, hS, rfl, rfl⟩ | ⟨hI, hlt, y, hy, rfl⟩⟩
    · simp [hC, hI, hS, Affine.identity, Nat.not_le.2 p_pos]
    · obtain ⟨hrlt, hroot⟩ := fpSqrt?_curveRhs_eq_some (fpSqrt?_curveRhs_of_root hy.sq)
      simp [hC, hI, Nat.not_le.2 hlt, fpSqrt?_curveRhs_of_root hy.sq,
        (signedRoot_chooseRoot (flagS bs) hrlt hroot).unique hy]

section
variable {xs : List Byte} (hlen : xs.length = 48) (ys : List Byte)
include hlen

theorem headD_append : (xs ++ ys).headD 0 = xs.headD 0 := by
  obtain ⟨v, xs, rfl⟩ := List.exists_cons_of_length_eq_add_one hlen
  rfl

theorem flagC_append : flagC (xs ++ ys) = flagC xs := congrArg (BitVec.getLsbD · 7) (headD_append hlen ys)
theorem flagI_append : flagI (xs ++ ys) = flagI xs := congrArg (BitVec.getLsbD · 6) (headD_append hlen ys)
theorem flagS_append : flagS (xs ++ ys) = flagS xs := congrArg (BitVec.getLsbD · 5) (headD_append hlen ys)

end

/-- The uncompressed decoder accepts two canonical coordinates with no flag, and the exact identity pattern (R423). -/
theorem decodeUncompressedUnchecked_append_eq_some_iff {xs ys : List Byte} {A : Affine} (hlen : xs.length = 48) :
    decodeUncompressedUnchecked (xs ++ ys) = some A ↔ flagC xs = false ∧ flagS xs = false ∧
      ((flagI xs = true ∧ beInt (dropFlags xs) = 0 ∧ beInt ys = 0 ∧ A = ⟨0, 1, true⟩) ∨
        (flagI xs = false ∧ beInt (dropFlags xs) < Config.p ∧ beInt ys < Config.p ∧
          A = ⟨beInt (dropFlags xs), beInt ys, false⟩)) := by
  unfold decodeUncompressedUnchecked
  dsimp only
  rw [flagC_append hlen, flagI_append hlen, flagS_append hlen, List.take_left' hlen, List.drop_left' hlen]
  generalize beInt (dropFlags xs) = x
  generalize beInt ys = y
  constructor
  · intro h
    split_ifs at h with hlt hzero hCS hI
    case pos =>
      obtain ⟨hx, hy⟩ := not_not.1 fun hne => hzero ⟨hI, hne⟩
      obtain ⟨hC, hS⟩ := not_or.1 hCS
      exact ⟨by simpa using hC, by simpa using hS, .inl ⟨hI, hx, hy, (Option.some.inj h).symm⟩⟩
    case neg =>
      obtain ⟨hx, hy⟩ := not_or.1 hlt
      obtain ⟨hC, hS⟩ := not_or.1 hCS
      exact ⟨by simpa using hC, by simpa using hS,
        .inr ⟨by simpa using hI, Nat.not_le.1 hx, Nat.not_le.1 hy, (Option.some.inj h).symm⟩⟩
  · rintro ⟨hC, hS, ⟨hI, rfl, rfl, rfl⟩ | ⟨hI, hx, hy, rfl⟩⟩
    · simp [hC, hS, hI, Affine.identity, Nat.not_le.2 p_pos]
    · simp [hC, hS, hI, Nat.not_le.2 hx, Nat.not_le.2 hy]

end Sys2Proof.Machine
end

section
/-! The point codec (43_affine.md R401, R402, R418 to R426): an encoding is its coordinates with the flags added above bit 380, and
the decoders read it back. -/

namespace Sys2Proof.Machine

open Spec

/-! ## A coordinate with its flags -/

/-- The 48 bytes of a coordinate below `2^381` with the flags C, I and S as a number f (R401). -/
theorem orFirst_beBytes_48 {v : Nat} (f : Nat) (hv : v < 2 ^ 381) :
    orFirst (BitVec.ofNat 8 (2 ^ 5 * f)) (beBytes 48 v) = beBytes 48 (v + f * 2 ^ 381) := by
  have hexp : 256 ^ 47 * 2 ^ 5 = 2 ^ 381 := by decide +kernel
  rw [orFirst_beBytes f (by rwa [hexp]), Nat.mul_comm (2 ^ 5), Nat.mul_assoc, Nat.mul_comm (2 ^ 5), hexp]

theorem testBit_add_mul_two_pow {v n : Nat} (hv : v < 2 ^ n) (f k : Nat) : (v + f * 2 ^ n).testBit (n + k) = f.testBit k := by
  rw [Nat.add_comm v, Nat.mul_comm, Nat.testBit_two_pow_mul_add _ hv, if_neg (by omega), Nat.add_sub_cancel_left]

section
variable {v f : Nat} (hv : v < 2 ^ 381) (hf : f < 8)
include hv hf

theorem beInt_beBytes_flags : beInt (beBytes 48 (v + f * 2 ^ 381)) = v + f * 2 ^ 381 := by
  have hexp : 8 * 2 ^ 381 = 256 ^ 48 := by decide +kernel
  refine beInt_beBytes ?_
  rw [← hexp]
  omega

theorem beInt_dropFlags_beBytes : beInt (dropFlags (beBytes 48 (v + f * 2 ^ 381))) = v := by
  rw [beInt_dropFlags (length_beBytes 48 _), beInt_beBytes_flags hv hf, Nat.add_mul_mod_self_right, Nat.mod_eq_of_lt hv]

theorem testBit_beInt_beBytes (k : Nat) : (beInt (beBytes 48 (v + f * 2 ^ 381))).testBit (381 + k) = f.testBit k := by
  rw [beInt_beBytes_flags hv hf, testBit_add_mul_two_pow hv]

theorem flagC_beBytes : flagC (beBytes 48 (v + f * 2 ^ 381)) = f.testBit 2 :=
  (flagC_eq_testBit (length_beBytes 48 _)).trans (testBit_beInt_beBytes hv hf 2)

theorem flagI_beBytes : flagI (beBytes 48 (v + f * 2 ^ 381)) = f.testBit 1 :=
  (flagI_eq_testBit (length_beBytes 48 _)).trans (testBit_beInt_beBytes hv hf 1)

theorem flagS_beBytes : flagS (beBytes 48 (v + f * 2 ^ 381)) = f.testBit 0 :=
  (flagS_eq_testBit (length_beBytes 48 _)).trans (testBit_beInt_beBytes hv hf 0)

end

/-! ## The encodings (R418, R419) -/

theorem lt_two_pow_381_of_lt_p {v : Nat} (h : v < Config.p) : v < 2 ^ 381 := h.trans p_bits_and_residue.2.1

theorem encodeCompressed_identity {A : Affine} (h : A.inf = true) : encodeCompressed A = beBytes 48 (0 + 6 * 2 ^ 381) := by
  rw [← orFirst_beBytes_48 6 (by decide +kernel)]
  simp [encodeCompressed, h, orFirst_orFirst]

theorem encodeCompressed_finite {A : Affine} (h : A.inf = false) (hx : A.x < Config.p) :
    encodeCompressed A = beBytes 48 (A.x + (4 + (fpLexLargest A.y).toNat) * 2 ^ 381) := by
  rw [← orFirst_beBytes_48 _ (lt_two_pow_381_of_lt_p hx)]
  cases hs : fpLexLargest A.y <;> simp [encodeCompressed, h, hs, orFirst_orFirst]

theorem encodeUncompressed_identity {A : Affine} (h : A.inf = true) :
    encodeUncompressed A = beBytes 48 (0 + 2 * 2 ^ 381) ++ beBytes 48 0 := by
  rw [← orFirst_beBytes_48 2 (by decide +kernel)]
  simp [encodeUncompressed, h, beBytes_succ, orFirst]

theorem encodeUncompressed_finite {A : Affine} (h : A.inf = false) :
    encodeUncompressed A = beBytes 48 (A.x + 0 * 2 ^ 381) ++ beBytes 48 A.y := by
  rw [Nat.zero_mul, Nat.add_zero]
  simp [encodeUncompressed, h]

theorem encodeCompressed_eq_beBytes {A : Affine} (hx : A.x < Config.p) : encodeCompressed A = beBytes 48
    (if A.inf then 2 ^ 383 + 2 ^ 382 else A.x + 2 ^ 383 + if A.y > (Config.p - 1) / 2 then 2 ^ 381 else 0) := by
  cases h : A.inf with
  | true =>
    rw [encodeCompressed_identity h, if_pos rfl]
    exact congrArg _ (by decide +kernel)
  | false =>
    have hC : 4 * 2 ^ 381 = 2 ^ 383 := by decide +kernel
    rw [encodeCompressed_finite h hx, if_neg Bool.false_ne_true, Nat.add_mul, hC, ← Nat.add_assoc, fpLexLargest]
    by_cases hs : A.y > (Config.p - 1) / 2
    · rw [if_pos hs, decide_eq_true hs, Bool.toNat_true, Nat.one_mul]
    · rw [if_neg hs, decide_eq_false hs, Bool.toNat_false, Nat.zero_mul]

theorem encodeUncompressed_eq_beBytes {A : Affine} (hy : A.y < Config.p) :
    encodeUncompressed A = beBytes 96 (if A.inf then 2 ^ 766 else A.x * 2 ^ 384 + A.y) := by
  cases h : A.inf with
  | true =>
    rw [encodeUncompressed_identity h, beBytes_append 48 _ (by decide +kernel), if_pos rfl]
    exact congrArg _ (by decide +kernel)
  | false =>
    have hexp : 256 ^ 48 = 2 ^ 384 := by decide +kernel
    rw [encodeUncompressed_finite h, beBytes_append 48 _ (hy.trans p_lt_256_pow), if_neg Bool.false_ne_true, Nat.zero_mul,
      hexp, Nat.add_comm A.y, Nat.add_zero A.x]

/-- Settles O47: the bytes written are those of one big-endian integer. -/
theorem pointEncodersWriteTheFormats : Obligations.PointEncodersWriteTheFormats := fun _ _ hx hy hwf =>
  ⟨decode_word, decode_word,
    ⟨_, exec_of_writeBuf (congrArg _ (encodeCompressed_eq_beBytes hx)), holdsBE_bufWrite hwf (by decide) _⟩,
    ⟨_, exec_of_writeBuf (congrArg _ (encodeUncompressed_eq_beBytes hy)), holdsBE_bufWrite hwf (by decide) _⟩⟩

/-! ## The decoders on any input (R421, R424) -/

/-- Settles O48: the inputs that the two decoders accept, with the flags and the coordinate as bits of one integer. -/
theorem uncheckedPointDecoders : Obligations.UncheckedPointDecoders := by
  intro s d N y2 x C I S
  have hlen : (s.opBuf 48).length = 48 := length_bufRead _ _ _
  have hN : beInt (s.opBuf 48) = N := beInt_bufRead _ _ _
  have hx : beInt (dropFlags (s.opBuf 48)) = x := by rw [beInt_dropFlags hlen, hN]
  have hC : flagC (s.opBuf 48) = C := by rw [flagC_eq_testBit hlen, hN]
  have hI : flagI (s.opBuf 48) = I := by rw [flagI_eq_testBit hlen, hN]
  have hS : flagS (s.opBuf 48) = S := by rw [flagS_eq_testBit hlen, hN]
  have hy2 : beInt (bufRead s.operands.BUF 48 48) = y2 := beInt_bufRead _ _ _
  have hsplit : s.opBuf 96 = s.opBuf 48 ++ bufRead s.operands.BUF 48 48 := bufRead_add _ 0 48 48
  have hcomp (A : Affine) := decodeCompressedUnchecked_eq_some_iff (bs := s.opBuf 48) (A := A)
  have huncomp (A : Affine) :=
    decodeUncompressedUnchecked_append_eq_some_iff (ys := bufRead s.operands.BUF 48 48) (A := A) hlen
  simp only [hx, hC, hI, hS] at hcomp
  simp only [hx, hC, hI, hS, hy2, ← hsplit] at huncomp
  clear_value N y2 x C I S
  refine ⟨decode_word, decode_word, fun hc hi hs h0 => ?_, fun hc hi hlt ⟨z, hz⟩ => ?_, fun hid hfin => ?_,
    fun hc hi hs hlt hlt2 => ?_, fun hc hi hs h0 h02 => ?_, fun hfin hid => ?_⟩
  · exact exec_of_decoded (effect_paFromcompu s d) ((hcomp _).2 ⟨hc, .inl ⟨hi, hs, h0, rfl⟩⟩)
  · obtain ⟨y, hy⟩ := exists_signedRoot S hz
    exact ⟨y, hy.lt, hy.sq, hy.lex,
      exec_of_decoded (effect_paFromcompu s d) ((hcomp _).2 ⟨hc, .inr ⟨hi, hlt, y, hy, rfl⟩⟩)⟩
  · refine exec_of_not_decoded (effect_paFromcompu s d) (Option.eq_none_iff_forall_ne_some.2 fun A hA => ?_)
    rcases (hcomp A).1 hA with ⟨hc, ⟨hi, hs, h0, -⟩ | ⟨hi, hlt, y, hy, -⟩⟩
    · exact hid ⟨hc, hi, hs, h0⟩
    · exact hfin ⟨hc, hi, hlt, y, hy.sq⟩
  · exact exec_of_decoded (effect_paFromuncompu s d) ((huncomp _).2 ⟨hc, hs, .inr ⟨hi, hlt, hlt2, rfl⟩⟩)
  · exact exec_of_decoded (effect_paFromuncompu s d) ((huncomp _).2 ⟨hc, hs, .inl ⟨hi, h0, h02, rfl⟩⟩)
  · refine exec_of_not_decoded (effect_paFromuncompu s d) (Option.eq_none_iff_forall_ne_some.2 fun A hA => ?_)
    rcases (huncomp A).1 hA with ⟨hc, hs, ⟨hi, h0, h02, -⟩ | ⟨hi, hlt, hlt2, -⟩⟩
    · exact hid ⟨hc, hi, hs, h0, h02⟩
    · exact hfin ⟨hc, hi, hs, hlt, hlt2⟩

/-! ## Round trips (R426) -/

theorem decodeUncompressedUnchecked_encodeUncompressed {A : Affine} (h : A.Canonical) :
    decodeUncompressedUnchecked (encodeUncompressed A) = some A := by
  cases hi : A.inf with
  | true =>
    rw [encodeUncompressed_identity hi, decodeUncompressedUnchecked_append_eq_some_iff (length_beBytes 48 _),
      flagC_beBytes (by decide +kernel) (by decide), flagS_beBytes (by decide +kernel) (by decide),
      flagI_beBytes (by decide +kernel) (by decide), beInt_dropFlags_beBytes (by decide +kernel) (by decide)]
    exact ⟨rfl, rfl, .inl ⟨rfl, rfl, beInt_beBytes (by decide +kernel), h.identity hi⟩⟩
  | false =>
    have hx := lt_two_pow_381_of_lt_p h.x
    rw [encodeUncompressed_finite hi, decodeUncompressedUnchecked_append_eq_some_iff (length_beBytes 48 _),
      flagC_beBytes hx (by decide), flagS_beBytes hx (by decide), flagI_beBytes hx (by decide),
      beInt_dropFlags_beBytes hx (by decide), beInt_beBytes (h.y.trans p_lt_256_pow)]
    exact ⟨rfl, rfl, .inr ⟨rfl, h.x, h.y, hi ▸ rfl⟩⟩

theorem decodeCompressedUnchecked_encodeCompressed {A : Affine} (h : A.Canonical) (hcurve : affOnCurve A = true) :
    decodeCompressedUnchecked (encodeCompressed A) = some A := by
  cases hi : A.inf with
  | true =>
    rw [encodeCompressed_identity hi, decodeCompressedUnchecked_eq_some_iff,
      flagC_beBytes (by decide +kernel) (by decide), flagS_beBytes (by decide +kernel) (by decide),
      flagI_beBytes (by decide +kernel) (by decide), beInt_dropFlags_beBytes (by decide +kernel) (by decide)]
    exact ⟨rfl, .inl ⟨rfl, rfl, rfl, h.identity hi⟩⟩
  | false =>
    obtain ⟨x, y, inf⟩ := A
    subst hi
    have hx := lt_two_pow_381_of_lt_p h.x
    have hf : 4 + (fpLexLargest y).toNat < 8 := by have := Bool.toNat_lt (fpLexLargest y); omega
    rw [encodeCompressed_finite rfl h.x, decodeCompressedUnchecked_eq_some_iff, flagC_beBytes hx hf, flagS_beBytes hx hf,
      flagI_beBytes hx hf, beInt_dropFlags_beBytes hx hf]
    refine ⟨?_, .inr ⟨?_, h.x, y, ⟨h.y, affOnCurve_finite_iff.1 hcurve, ?_⟩, rfl⟩⟩ <;> cases fpLexLargest y <;> rfl

/-- The compressed decoder answers points of the curve alone. -/
theorem affOnCurve_of_decodeCompressedUnchecked {bs : List Byte} {A : Affine} (h : decodeCompressedUnchecked bs = some A) :
    affOnCurve A = true := by
  rcases decodeCompressedUnchecked_eq_some_iff.1 h with ⟨-, ⟨-, -, -, rfl⟩ | ⟨-, -, y, hy, rfl⟩⟩
  · rfl
  · exact affOnCurve_finite_iff.2 hy.sq

/-- Settles O50: what an encoding's bytes carry is what the decoders accept; off the curve there is no root to decode. -/
theorem codecRoundTrips : Obligations.CodecRoundTrips := by
  intro A hx hy hid
  have hA : A.Canonical := ⟨hx, hy, hid⟩
  have huncomp := decodeUncompressedUnchecked_encodeUncompressed hA
  refine ⟨huncomp, decodeCompressedUnchecked_encodeCompressed hA, fun hcurve htorsion => ?_, fun hoff h => ?_⟩
  · rw [decodeCompressedUnchecked_encodeCompressed hA hcurve, huncomp, validated_of_valid hcurve htorsion]
    exact ⟨rfl, rfl⟩
  · rw [affOnCurve_of_decodeCompressedUnchecked h] at hoff
    cases hoff

end Sys2Proof.Machine
end

section
/-! The complete formulas and the scalar multipliers (43_affine.md R416, R417, 44_projective.md R472 to R481, R495 to R500): the step-by-step
formulas are the closed forms in `ZMod p`, and the two loops are walked from the low end of the scalar. -/

namespace Sys2Proof.Machine

open Spec

/-! ## The formulas in closed form (R472 to R474) -/

theorem projDouble_eq_doubleFormula {P : Proj} (h : P.Z ≠ 0) : projDouble P = doubleFormula P.X P.Y P.Z := by
  simp only [projDouble, if_neg h, doubleFormula, Proj.mk.injEq]
  refine ⟨(residue_eq_of_cast (fpAdd_lt _ _) ?_).symm, (residue_eq_of_cast (fpAdd_lt _ _) ?_).symm,
    (residue_eq_of_cast (fpMul_lt _ _) ?_).symm⟩ <;>
  · push_cast [cast_fpAdd, cast_fpSub, cast_fpMul, cast_mul3b]
    ring

theorem projDouble_eq (P : Proj) : projDouble P = if P.Z = 0 then ⟨0, 1, 0⟩ else doubleFormula P.X P.Y P.Z := by
  split
  case isTrue h => exact if_pos h
  case isFalse h => exact projDouble_eq_doubleFormula h

/-- The second operand may be given by any integers of its residues. -/
theorem projAdd_eq_addFormula {P Q : Proj} {x y z : Int} (hx : (x : ZMod Config.p) = Q.X) (hy : (y : ZMod Config.p) = Q.Y)
    (hz : (z : ZMod Config.p) = Q.Z) : projAdd P Q = addFormula P.X P.Y P.Z x y z := by
  simp only [projAdd, addFormula, Proj.mk.injEq]
  refine ⟨(residue_eq_of_cast (fpSub_lt _ _) ?_).symm, (residue_eq_of_cast (fpAdd_lt _ _) ?_).symm,
    (residue_eq_of_cast (fpAdd_lt _ _) ?_).symm⟩ <;>
  · push_cast [cast_fpAdd, cast_fpSub, cast_fpMul, cast_mul3b, hx, hy, hz]
    ring

/-- The mixed addition is the addition formula at `Z2 = 1`. -/
theorem projAddMixed_eq (P : Proj) (A : Affine) :
    projAddMixed P A = if A.inf then P else addFormula P.X P.Y P.Z A.x A.y 1 := by
  cases h : A.inf with
  | true => exact if_pos h
  | false =>
    simp only [projAddMixed, h, Bool.false_eq_true, if_false, addFormula, Proj.mk.injEq]
    refine ⟨(residue_eq_of_cast (fpSub_lt _ _) ?_).symm, (residue_eq_of_cast (fpAdd_lt _ _) ?_).symm,
      (residue_eq_of_cast (fpAdd_lt _ _) ?_).symm⟩ <;>
    · push_cast [cast_fpAdd, cast_fpSub, cast_fpMul, cast_mul3b]
      ring

theorem intCast_p_sub (v : Nat) : (((Config.p : Int) - v : Int) : ZMod Config.p) = fpNeg v := by
  rw [cast_fpNeg]
  simp

theorem intCast_promote_Z (A : Affine) : (promote A).Z = (if A.inf then 0 else 1 : Int) := by
  unfold promote
  split <;> rfl

/-- The same for the sum of two affine points (R416). -/
theorem projAddMixed_promote_eq (A B : Affine) : projAddMixed (promote A) B =
    if B.inf then ⟨A.x, A.y, if A.inf then 0 else 1⟩
    else addFormula A.x A.y (if A.inf then 0 else 1) B.x B.y 1 := by
  rw [projAddMixed_eq, intCast_promote_Z]
  rfl

/-- Settles O53: each adder's effect in closed form. -/
theorem pointAddersComputeTheFormulas : Obligations.PointAddersComputeTheFormulas := fun _ _ _ _ _ _ =>
  have hcast (v : Nat) : ((v : Int) : ZMod Config.p) = v := Int.cast_natCast v
  ⟨decode_word, exec_of_writeP (congrArg _ (projDouble_eq _)),
    decode_word, exec_of_writeP (congrArg _ (projAdd_eq_addFormula (hcast _) (hcast _) (hcast _))),
    decode_word, exec_of_writeP (congrArg _ (projAdd_eq_addFormula (hcast _) (intCast_p_sub _) (hcast _))),
    decode_word, exec_of_writeP (congrArg _ (projAddMixed_eq _ _)),
    decode_word, exec_of_writeP (congrArg _ (projAddMixed_promote_eq _ _))⟩

/-! ## Double-and-add (R479) -/

theorem projDouble_identity : projDouble Proj.identity = Proj.identity := (projDouble_eq _).trans (if_pos rfl)

/-- A leading 0 bit only doubles. -/
theorem scalarMulLoop_succ_of_lt {k n : Nat} (hk : k < 2 ^ n) (P acc : Proj) :
    scalarMulLoop P k (n + 1) acc = scalarMulLoop P k n (projDouble acc) := by
  rw [scalarMulLoop, Nat.testBit_lt_two_pow hk, if_neg Bool.false_ne_true]

/-- From the identity a leading 0 bit does nothing. -/
theorem scalarMulLoop_identity_succ {k n : Nat} (hk : k < 2 ^ n) (P : Proj) :
    scalarMulLoop P k (n + 1) Proj.identity = scalarMulLoop P k n Proj.identity := by
  rw [scalarMulLoop_succ_of_lt hk, projDouble_identity]

/-- The loop's last round is for the scalar's lowest bit. -/
theorem scalarMulLoop_bit (P : Proj) (b : Bool) (k n : Nat) (acc : Proj) : scalarMulLoop P (Nat.bit b k) (n + 1) acc =
    if b then projAdd (projDouble (scalarMulLoop P k n acc)) P else projDouble (scalarMulLoop P k n acc) := by
  induction n generalizing acc with
  | zero => simp only [scalarMulLoop, Nat.testBit_bit_zero]
  | succ n ih => rw [scalarMulLoop, ih, Nat.testBit_bit_succ, scalarMulLoop]

theorem scalarMulLoop_zero (P : Proj) (n : Nat) : scalarMulLoop P 0 n Proj.identity = Proj.identity := by
  induction n with
  | zero => rfl
  | succ n ih => rw [scalarMulLoop_identity_succ (Nat.two_pow_pos n), ih]

theorem scalarMul_zero (P : Proj) : scalarMul P 0 = Proj.identity := scalarMulLoop_zero P 255

theorem scalarMul_bit (P : Proj) (b : Bool) {k : Nat} (hk : k < 2 ^ 254) : scalarMul P (Nat.bit b k) =
    if b then projAdd (projDouble (scalarMul P k)) P else projDouble (scalarMul P k) := by
  rw [scalarMul, scalarMulLoop_bit, scalarMul, scalarMulLoop_identity_succ hk]

/-! ## The chain of |x| (R480) -/

/-- One round, for the lowest bit of what is left of the scalar. -/
theorem mulByXLoop_bit {b : Bool} {y : Nat} (h : Nat.bit b y ≠ 0) (k : Nat) (tmp acc : Proj) :
    mulByXLoop (k + 1) (Nat.bit b y) tmp acc =
      mulByXLoop k y (projDouble tmp) (if b then projAdd acc (projDouble tmp) else acc) := by
  simp only [mulByXLoop, if_neg h, Nat.bit_shiftRight_one, Nat.testBit_bit_zero]

/-- A run of 0 bits only doubles. -/
theorem mulByXLoop_two_pow_mul {y : Nat} (hy : y ≠ 0) (n k : Nat) (tmp acc : Proj) :
    mulByXLoop (k + n) (2 ^ n * y) tmp acc = mulByXLoop k y (projDouble^[n] tmp) acc := by
  induction n generalizing tmp with
  | zero => rw [Nat.pow_zero, Nat.one_mul]; rfl
  | succ n ih =>
    have hbit : 2 ^ (n + 1) * y = Nat.bit false (2 ^ n * y) := by rw [Nat.pow_succ', Nat.mul_assoc]; rfl
    have hne : Nat.bit false (2 ^ n * y) ≠ 0 := by rw [← hbit]; positivity
    rw [hbit, ← Nat.add_assoc, mulByXLoop_bit hne, if_neg Bool.false_ne_true, ih, Function.iterate_succ_apply]

/-- A run of n 0 bits and the 1 bit above it. -/
theorem mulByXLoop_run (n y k : Nat) (tmp acc : Proj) : mulByXLoop (k + (n + 1)) (2 ^ n * (2 * y + 1)) tmp acc =
    mulByXLoop k y (projDouble^[n + 1] tmp) (projAdd acc (projDouble^[n + 1] tmp)) := by
  have hodd : 2 * y + 1 ≠ 0 := Nat.succ_ne_zero _
  rw [Nat.add_comm n, ← Nat.add_assoc, mulByXLoop_two_pow_mul hodd, Nat.add_comm 1, Function.iterate_succ_apply']
  exact mulByXLoop_bit (b := true) hodd k _ acc

theorem mulByXLoop_zero (k : Nat) (tmp acc : Proj) : mulByXLoop k 0 tmp acc = acc := by cases k <;> rfl

/-- The runs of 0 bits in `|x| / 2`, from the lowest. -/
theorem xAbs_runs : Config.xAbs >>> 1 = 2 ^ 15 * (2 * (2 ^ 31 * (2 * (2 ^ 8 * (2 * (2 ^ 2 * (2 * (2 ^ 1 * (2 * (2 ^ 0 *
    (2 * 0 + 1)) + 1)) + 1)) + 1)) + 1)) + 1) := by decide +kernel

theorem mulByX_eq_chain (P : Proj) : mulByX P = projNeg (projAdd (projAdd (projAdd (projAdd (projAdd (projAdd Proj.identity
    (projDouble^[16] P)) (projDouble^[48] P)) (projDouble^[57] P)) (projDouble^[60] P)) (projDouble^[62] P))
    (projDouble^[63] P)) := by
  rw [mulByX, xAbs_runs, show 64 = 1 + (0 + 1) + (1 + 1) + (2 + 1) + (8 + 1) + (31 + 1) + (15 + 1) by rfl]
  simp only [mulByXLoop_run, mulByXLoop_zero, ← Function.iterate_add_apply]

/-- Settles O54: the commands by their effects, the loop by the scalar's lowest bit, and the chain by the runs of |x|. -/
theorem scalarMultipliersDoubleAndAdd : Obligations.ScalarMultipliersDoubleAndAdd :=
  ⟨fun _ _ _ _ _ =>
      ⟨decode_word, exec_of_writeP rfl, decode_word, exec_of_writeP rfl, decode_word, exec_of_writeP rfl⟩,
    fun P => ⟨scalarMul_zero P, fun _ hk => ⟨scalarMul_bit P false hk, scalarMul_bit P true hk⟩⟩,
    ⟨projDouble_identity, fun P _ hk => scalarMulLoop_identity_succ hk P⟩, mulByX_eq_chain⟩

end Sys2Proof.Machine
end

section
/-! The complete addition over a field in which -4 is no cube (44_projective.md R473, R502): on points of `y² = x³ + 4` the formula is
the chord-and-tangent sum, and it is never `(0, 0, 0)`, because its Z coordinate is, up to a power of the difference of the x
coordinates, the y coordinate of the difference of the two points, and no point of the curve has `y = 0`. -/

namespace Sys2Proof.Machine

/-- Homogeneous coordinates over a field. -/
@[ext] structure Triple (K : Type) where
  X : K
  Y : K
  Z : K

namespace Triple

section
variable {K : Type} [CommRing K]

/-- The same point by other coordinates. -/
def scale (c : K) (P : Triple K) : Triple K := ⟨c * P.X, c * P.Y, c * P.Z⟩

/-- The closed form of the complete addition for `b = 4` (R473), as `Spec.addFormula` has it on integers. -/
def add (P Q : Triple K) : Triple K :=
  ⟨(P.X * Q.Y + Q.X * P.Y) * (P.Y * Q.Y - 12 * P.Z * Q.Z) - 12 * (P.Y * Q.Z + Q.Y * P.Z) * (P.X * Q.Z + Q.X * P.Z),
    (P.Y * Q.Y + 12 * P.Z * Q.Z) * (P.Y * Q.Y - 12 * P.Z * Q.Z) + 36 * P.X * Q.X * (P.X * Q.Z + Q.X * P.Z),
    (P.Y * Q.Z + Q.Y * P.Z) * (P.Y * Q.Y + 12 * P.Z * Q.Z) + 3 * P.X * Q.X * (P.X * Q.Y + Q.X * P.Y)⟩

/-- The closed form of the doubling (R472), as `Spec.doubleFormula` has it on integers. -/
def double (P : Triple K) : Triple K :=
  ⟨2 * P.X * P.Y * (P.Y ^ 2 - 36 * P.Z ^ 2), (P.Y ^ 2 - 36 * P.Z ^ 2) * (P.Y ^ 2 + 12 * P.Z ^ 2) + 96 * P.Y ^ 2 * P.Z ^ 2,
    8 * P.Y ^ 3 * P.Z⟩

theorem scale_scale (c d : K) (P : Triple K) : (P.scale c).scale d = P.scale (d * c) := by
  simp only [scale, mul_assoc]

theorem add_scale (c d : K) (P Q : Triple K) : (P.scale c).add (Q.scale d) = (P.add Q).scale ((c * d) ^ 2) := by
  ext <;> simp only [add, scale] <;> ring

theorem add_comm (P Q : Triple K) : P.add Q = Q.add P := by
  ext <;> simp only [add] <;> ring

theorem identity_add (Q : Triple K) : add ⟨0, 1, 0⟩ Q = Q.scale Q.Y := by
  ext <;> simp only [add, scale] <;> ring

/-- On the curve doubling is the addition of a triple to itself. -/
theorem add_self {P : Triple K} (h : P.Y ^ 2 * P.Z = P.X ^ 3 + 4 * P.Z ^ 3) : P.add P = P.double := by
  ext <;> simp only [add, double]
  · ring
  · linear_combination (-72 * P.Z) * h
  · linear_combination (-6 * P.Y) * h

section
variable {x1 y1 x2 y2 : K} (h1 : y1 ^ 2 = x1 ^ 3 + 4)
include h1

/-- On a line through two points of the curve, a chord or a tangent, the formula is the third point's negative, scaled. -/
theorem add_eq_scale_of_slope {l : K} (hchord : y1 - y2 = l * (x1 - x2)) (htangent : l * (y1 + y2) = x1 ^ 2 + x1 * x2 + x2 ^ 2) :
    add ⟨x1, y1, 1⟩ ⟨x2, y2, 1⟩ = scale (add ⟨x1, y1, 1⟩ ⟨x2, y2, 1⟩).Z
      ⟨l ^ 2 - x1 - x2, l * (x1 - (l ^ 2 - x1 - x2)) - y1, 1⟩ := by
  ext <;> simp only [add, scale]
  · grind
  · grind
  · ring

/-- The Z coordinate squared is `(x1 - x2)^6` times `x³ + 4` at the x coordinate of the points' difference. -/
theorem sq_Z_add (h2 : y2 ^ 2 = x2 ^ 3 + 4) : (add ⟨x1, y1, 1⟩ ⟨x2, y2, 1⟩).Z ^ 2 =
    ((y1 + y2) ^ 2 - (x1 + x2) * (x1 - x2) ^ 2) ^ 3 + 4 * ((x1 - x2) ^ 2) ^ 3 := by
  simp only [add]
  grind

theorem add_neg : add ⟨x1, y1, 1⟩ ⟨x1, -y1, 1⟩ = ⟨0, y1 ^ 4 + 72 * y1 ^ 2 - 432, 0⟩ := by
  ext <;> simp only [add]
  · ring
  · linear_combination (-72) * h1
  · ring

end
end

section
variable {K : Type} [Field K] (hcube : ∀ x : K, x ^ 3 + 4 ≠ 0)
include hcube

theorem eq_zero_of_cube_add {a b : K} (h : a ^ 3 + 4 * b ^ 3 = 0) : b = 0 := by
  by_contra hb
  refine hcube (a / b) ?_
  rw [div_pow, div_add' _ _ _ (pow_ne_zero 3 hb), h, zero_div]

theorem two_ne_zero_of_cube : (2 : K) ≠ 0 := fun h2 => hcube 0 (by linear_combination 2 * h2)

variable {x1 y1 x2 y2 : K} (h1 : y1 ^ 2 = x1 ^ 3 + 4)
include h1

theorem y_ne_zero : y1 ≠ 0 := by
  rintro rfl
  exact hcube x1 (by rw [← h1, zero_pow two_ne_zero])

/-- Where the Z coordinate vanishes the two points are opposite. -/
theorem Z_add_ne_zero (h2 : y2 ^ 2 = x2 ^ 3 + 4) (hne : ¬(x1 = x2 ∧ y1 = -y2)) : (add ⟨x1, y1, 1⟩ ⟨x2, y2, 1⟩).Z ≠ 0 := by
  intro hZ
  have hnorm := sq_Z_add h1 h2
  rw [hZ, zero_pow two_ne_zero] at hnorm
  have hx : x1 = x2 := sub_eq_zero.1 (pow_eq_zero_iff two_ne_zero |>.1 (eq_zero_of_cube_add hcube hnorm.symm))
  subst hx
  refine hne ⟨rfl, eq_neg_of_add_eq_zero_left ?_⟩
  simpa using hnorm.symm

/-- And for opposite points the Y coordinate does not: it is that of the double, which is a point of the curve. -/
theorem Y_add_neg_ne_zero : y1 ^ 4 + 72 * y1 ^ 2 - 432 ≠ 0 := by
  intro h
  have hnorm : (x1 * (y1 ^ 2 - 36)) ^ 3 + 4 * (2 ^ 2 * y1 ^ 2) ^ 3 = 0 := by
    linear_combination (y1 ^ 4 + 72 * y1 ^ 2 - 432) * h - (y1 ^ 2 - 36) ^ 3 * h1
  refine mul_ne_zero (pow_ne_zero 2 (two_ne_zero_of_cube hcube)) (pow_ne_zero 2 (y_ne_zero hcube h1)) ?_
  exact eq_zero_of_cube_add hcube hnorm

end
end Triple
end Sys2Proof.Machine
end

section
/-! The point functions against Mathlib's group of points (44_projective.md R481, R499, R502): a triple represents a point when its
coordinates are a nonzero multiple of the point's own, and each function takes representatives to representatives. -/

namespace Sys2Proof.Machine

open Spec

/-! ## The curve in Mathlib's words -/

theorem curve_equation_iff {x y : ZMod Config.p} : curve.Equation x y ↔ y ^ 2 = x ^ 3 + 4 := by
  rw [WeierstrassCurve.Affine.equation_iff]
  simp [curve]

theorem curve_negY (x y : ZMod Config.p) : curve.negY x y = -y := by simp [curve, WeierstrassCurve.Affine.negY]

theorem curve_addX (x1 x2 l : ZMod Config.p) : curve.addX x1 x2 l = l ^ 2 - x1 - x2 := by
  simp [curve, WeierstrassCurve.Affine.addX]

theorem curve_addY (x1 x2 y1 l : ZMod Config.p) : curve.addY x1 x2 y1 l = l * (x1 - (l ^ 2 - x1 - x2)) - y1 := by
  rw [WeierstrassCurve.Affine.addY, WeierstrassCurve.Affine.negAddY, curve_negY, curve_addX]
  ring

/-! ## Representatives as multiples (R502) -/

/-- The coordinates of a projective value in the field. -/
def Triple.ofProj (P : Proj) : Triple (ZMod Config.p) := ⟨P.X, P.Y, P.Z⟩

/-- A point's own coordinates: `(0, 1, 0)` of the identity, else `(x, y, 1)`. -/
def Triple.ofPoint : curve.Point → Triple (ZMod Config.p)
  | .zero => ⟨0, 1, 0⟩
  | .some x y _ => ⟨x, y, 1⟩

theorem eq_zero_of_cast {v : Nat} (hv : v < Config.p) (h : (v : ZMod Config.p) = 0) : v = 0 :=
  eq_of_cast_eq hv p_pos (h.trans Nat.cast_zero.symm)

theorem cast_residue (v : Int) : ((residue Config.p v : Nat) : ZMod Config.p) = v := by
  rw [← Int.cast_natCast, residue, Int.toNat_of_nonneg (Int.emod_nonneg _ (by exact_mod_cast p_pos.ne')), ZMod.intCast_mod]

theorem ofProj_projAdd (P Q : Proj) : Triple.ofProj (projAdd P Q) = (Triple.ofProj P).add (Triple.ofProj Q) := by
  have hcast (v : Nat) : ((v : Int) : ZMod Config.p) = v := Int.cast_natCast v
  rw [projAdd_eq_addFormula (hcast Q.X) (hcast Q.Y) (hcast Q.Z)]
  simp only [Triple.ofProj, Triple.add, addFormula, cast_residue]
  push_cast
  rfl

theorem ofProj_projDouble {P : Proj} (h : P.Z ≠ 0) : Triple.ofProj (projDouble P) = (Triple.ofProj P).double := by
  rw [projDouble_eq, if_neg h]
  simp only [Triple.ofProj, Triple.double, doubleFormula, cast_residue]
  push_cast
  rfl

theorem represents_identity : Represents Proj.identity 0 := ⟨rfl, one_ne_zero, one_lt_p, rfl⟩

theorem eq_zero_of_represents {P : Proj} {U : curve.Point} (hP : Represents P U) (hZ : P.Z = 0) : U = 0 := by
  cases U with
  | zero => rfl
  | some x y h =>
    obtain ⟨-, -, -, h0, -⟩ := hP
    exact absurd hZ h0

section
variable [Fact (Nat.Prime Config.p)] {P Q : Proj} {U V : curve.Point}

theorem represents_iff :
    Represents P U ↔ P.Canonical ∧ ∃ c ≠ 0, Triple.ofProj P = (Triple.ofPoint U).scale c := by
  obtain ⟨X, Y, Z⟩ := P
  cases U with
  | zero =>
    simp only [Represents, Triple.ofProj, Triple.ofPoint, Triple.scale, Triple.mk.injEq, mul_zero, mul_one]
    constructor
    · rintro ⟨rfl, hY, hlt, rfl⟩
      exact ⟨⟨p_pos, hlt, p_pos⟩, Y, cast_ne_zero_of_lt hY hlt, Nat.cast_zero, rfl, Nat.cast_zero⟩
    · rintro ⟨hP, c, hc, hX, rfl, hZ⟩
      exact ⟨eq_zero_of_cast hP.X hX, fun h0 => hc (h0 ▸ Nat.cast_zero), hP.Y, eq_zero_of_cast hP.Z hZ⟩
  | some x y _ =>
    simp only [Represents, Triple.ofProj, Triple.ofPoint, Triple.scale, Triple.mk.injEq, mul_one, mul_comm x, mul_comm y]
    constructor
    · rintro ⟨hX, hY, hZ, h0, hx, hy⟩
      exact ⟨⟨hX, hY, hZ⟩, Z, cast_ne_zero_of_lt h0 hZ, hx, hy, rfl⟩
    · rintro ⟨hP, c, hc, hx, hy, rfl⟩
      exact ⟨hP.X, hP.Y, hP.Z, fun h0 => hc (h0 ▸ Nat.cast_zero), hx, hy⟩

theorem ofPoint_Y_ne_zero (U : curve.Point) : (Triple.ofPoint U).Y ≠ 0 := by
  cases U with
  | zero => exact one_ne_zero
  | some x y h => exact Triple.y_ne_zero cube_add_four_ne_zero (curve_equation_iff.1 h.1)

/-! ## The complete addition (R473) -/

/-- The slope of Mathlib's group law, through two points that are not opposite: a chord, or the tangent. -/
theorem slope_relations {x1 y1 x2 y2 : ZMod Config.p} (h1 : y1 ^ 2 = x1 ^ 3 + 4) (h2 : y2 ^ 2 = x2 ^ 3 + 4)
    (hne : ¬(x1 = x2 ∧ y1 = -y2)) : y1 - y2 = curve.slope x1 x2 y1 y2 * (x1 - x2) ∧
      curve.slope x1 x2 y1 y2 * (y1 + y2) = x1 ^ 2 + x1 * x2 + x2 ^ 2 := by
  by_cases hx : x1 = x2
  · subst hx
    have hneg : y1 ≠ -y2 := fun hy => hne ⟨rfl, hy⟩
    obtain rfl : y1 = y2 := (sq_eq_sq_iff_eq_or_eq_neg.1 (h1.trans h2.symm)).resolve_right hneg
    have hsum : y1 + y1 ≠ 0 := fun h0 => hneg (eq_neg_of_add_eq_zero_left h0)
    have hslope : curve.slope x1 x1 y1 y1 = 3 * x1 ^ 2 / (y1 + y1) := by
      rw [WeierstrassCurve.Affine.slope_of_Y_ne rfl (by rwa [curve_negY]), curve_negY]
      simp [curve]
    rw [hslope, div_mul_cancel₀ _ hsum]
    constructor <;> ring
  · have hsub := sub_ne_zero.2 hx
    rw [WeierstrassCurve.Affine.slope_of_X_ne hx]
    refine ⟨(div_mul_cancel₀ _ hsub).symm, ?_⟩
    rw [div_mul_eq_mul_div, div_eq_iff hsub]
    linear_combination h1 - h2

theorem exists_add_ofPoint (U V : curve.Point) :
    ∃ c ≠ 0, (Triple.ofPoint U).add (Triple.ofPoint V) = (Triple.ofPoint (U + V)).scale c := by
  rcases U with _ | ⟨x1, y1, h1⟩
  · exact ⟨_, ofPoint_Y_ne_zero V, Triple.identity_add _⟩
  rcases V with _ | ⟨x2, y2, h2⟩
  · exact ⟨_, ofPoint_Y_ne_zero _, (Triple.add_comm _ _).trans (Triple.identity_add _)⟩
  have e1 := curve_equation_iff.1 h1.1
  have e2 := curve_equation_iff.1 h2.1
  by_cases hopp : x1 = x2 ∧ y1 = curve.negY x2 y2
  · rw [WeierstrassCurve.Affine.Point.add_of_Y_eq hopp.1 hopp.2]
    rw [curve_negY] at hopp
    obtain ⟨rfl, rfl⟩ := hopp
    refine ⟨_, Triple.Y_add_neg_ne_zero cube_add_four_ne_zero e2, ?_⟩
    refine (Triple.add_comm _ _).trans ((Triple.add_neg e2).trans ?_)
    simp only [Triple.scale, Triple.ofPoint, mul_zero, mul_one]
  · rw [WeierstrassCurve.Affine.Point.add_some hopp]
    rw [curve_negY] at hopp
    obtain ⟨hchord, htangent⟩ := slope_relations e1 e2 hopp
    refine ⟨_, Triple.Z_add_ne_zero cube_add_four_ne_zero e1 e2 hopp, ?_⟩
    simp only [Triple.ofPoint, curve_addX, curve_addY]
    exact Triple.add_eq_scale_of_slope e1 hchord htangent

/-- What has the coordinates of a sum of representatives represents the sum. -/
theorem represents_of_ofProj_eq_add {R : Proj} (hP : Represents P U) (hQ : Represents Q V) (hR : R.Canonical)
    (h : Triple.ofProj R = (Triple.ofProj P).add (Triple.ofProj Q)) : Represents R (U + V) := by
  obtain ⟨-, c, hc, hPc⟩ := represents_iff.1 hP
  obtain ⟨-, d, hd, hQd⟩ := represents_iff.1 hQ
  obtain ⟨e, he, hsum⟩ := exists_add_ofPoint U V
  refine represents_iff.2 ⟨hR, _, mul_ne_zero (pow_ne_zero 2 (mul_ne_zero hc hd)) he, ?_⟩
  rw [h, hPc, hQd, Triple.add_scale, hsum, Triple.scale_scale]

theorem represents_projAdd (hP : Represents P U) (hQ : Represents Q V) : Represents (projAdd P Q) (U + V) :=
  represents_of_ofProj_eq_add hP hQ (canonical_projAdd P Q) (ofProj_projAdd P Q)

/-! ## The other functions (R472, R474, R475) -/

/-- A representative satisfies the homogeneous equation of the curve (R482). -/
theorem ofProj_equation (hP : Represents P U) : (Triple.ofProj P).Y ^ 2 * (Triple.ofProj P).Z =
    (Triple.ofProj P).X ^ 3 + 4 * (Triple.ofProj P).Z ^ 3 := by
  obtain ⟨-, c, -, hc⟩ := represents_iff.1 hP
  rw [hc]
  cases U with
  | zero => simp only [Triple.ofPoint, Triple.scale]; ring
  | some x y h =>
    simp only [Triple.ofPoint, Triple.scale]
    linear_combination c ^ 3 * curve_equation_iff.1 h.1

theorem represents_projDouble (hP : Represents P U) : Represents (projDouble P) (U + U) := by
  by_cases hZ : P.Z = 0
  · rw [eq_zero_of_represents hP hZ, add_zero, projDouble_eq, if_pos hZ]
    exact represents_identity
  · refine represents_of_ofProj_eq_add hP hP (canonical_projDouble P) ?_
    rw [ofProj_projDouble hZ, Triple.add_self (ofProj_equation hP)]

theorem represents_projNeg (hP : Represents P U) : Represents (projNeg P) (-U) := by
  cases U with
  | zero =>
    obtain ⟨hX, h0, hY, hZ⟩ := hP
    refine ⟨hX, fun hneg => cast_ne_zero_of_lt h0 hY ?_, fpNeg_lt _, hZ⟩
    rw [← neg_eq_zero, ← cast_fpNeg, show fpNeg P.Y = 0 from hneg, Nat.cast_zero]
  | some x y h =>
    obtain ⟨hX, hY, hZ, h0, hx, hy⟩ := hP
    refine ⟨hX, fpNeg_lt _, hZ, h0, hx, (cast_fpNeg _).trans ?_⟩
    rw [curve_negY, neg_mul, hy]
    rfl

theorem represents_projAddMixed (hP : Represents P U) {A : Affine} (hA : Represents (promote A) V) :
    Represents (projAddMixed P A) (U + V) := by
  rw [projAddMixed_eq]
  split
  case isTrue hinf =>
    have hV : V = 0 := eq_zero_of_represents hA (if_pos hinf)
    rwa [hV, add_zero]
  case isFalse hinf =>
    have hsum := represents_projAdd hP hA
    rwa [projAdd_eq_addFormula (x := A.x) (y := A.y) (z := 1) (Int.cast_natCast _) (Int.cast_natCast _)
      (by simp [promote, hinf])] at hsum

/-! ## Scalar multiples (R479 to R481, R499) -/

theorem represents_scalarMul (hP : Represents P U) {k : Nat} (hk : k < 2 ^ 255) : Represents (scalarMul P k) (k • U) := by
  induction k using Nat.binaryRec with
  | zero =>
    rw [scalarMul_zero, zero_nsmul]
    exact represents_identity
  | bit b k ih =>
    have hhalf : k < 2 ^ 254 := by rw [Nat.bit_val] at hk; omega
    have hdouble := represents_projDouble (ih (by omega))
    rw [← two_nsmul, ← mul_nsmul'] at hdouble
    rw [scalarMul_bit P b hhalf]
    cases b with
    | false => exact hdouble
    | true =>
      rw [Nat.bit_true, succ_nsmul]
      exact represents_projAdd hdouble hP

theorem represents_projDouble_iterate (hP : Represents P U) (n : Nat) : Represents (projDouble^[n] P) (2 ^ n • U) := by
  induction n with
  | zero => rwa [pow_zero, one_nsmul]
  | succ n ih =>
    rw [Function.iterate_succ_apply', pow_succ, mul_nsmul, two_nsmul]
    exact represents_projDouble ih

theorem represents_mulByX (hP : Represents P U) : Represents (mulByX P) (-(Config.xAbs • U)) := by
  have hdbl (n : Nat) := represents_projDouble_iterate hP n
  have hx : Config.xAbs = 2 ^ 16 + 2 ^ 48 + 2 ^ 57 + 2 ^ 60 + 2 ^ 62 + 2 ^ 63 := by decide
  rw [mulByX_eq_chain, hx]
  simp only [add_nsmul]
  rw [← zero_add (2 ^ 16 • U)]
  exact represents_projNeg (represents_projAdd (represents_projAdd (represents_projAdd (represents_projAdd (represents_projAdd
    (represents_projAdd represents_identity (hdbl 16)) (hdbl 48)) (hdbl 57)) (hdbl 60)) (hdbl 62)) (hdbl 63))

theorem represents_clearCofactor (hP : Represents P U) : Represents (clearCofactor P) ((Config.xAbs + 1) • U) := by
  have hsum := represents_projAdd hP (represents_projNeg (represents_mulByX hP))
  rwa [neg_neg, add_comm, ← succ_nsmul] at hsum

end

/-- Settles O56: additions by the closed formula on coordinates, multiples by the recursions of the two multipliers. -/
theorem pointFunctionsAreTheGroupLaw : Obligations.PointFunctionsAreTheGroupLaw := fun _ _ _ _ hP hQ =>
  ⟨represents_projAdd hP hQ, represents_projDouble hP, represents_projNeg hP, fun _ hA => represents_projAddMixed hP hA,
    fun _ hk => represents_scalarMul hP hk, represents_mulByX hP, represents_clearCofactor hP⟩

end Sys2Proof.Machine
end

section
/-! The rest of the ProjectivePoint family (44_projective.md R475, R478, R482 to R494, R501): moves, coordinates, predicates and the
negation by their effects, and the batch normalizer, whose one shared inversion gives each point the inverse of its own Z. -/

namespace Sys2Proof.Machine

open Spec

/-! ## Constants, moves and coordinates (R483 to R489, R491) -/

/-- Settles O51: each command's effect is the rule's own expression. -/
theorem ppConstantsMovesAndCoordinates : Obligations.PpConstantsMovesAndCoordinates := fun _ _ _ _ _ _ =>
  ⟨decode_word, exec_of_writeP rfl,
    decode_word, exec_of_writeP rfl,
    decode_word, exec_of_writeP rfl,
    decode_word, exec_of_writeP rfl,
    decode_word, exec_of_writeF rfl,
    decode_word, exec_of_writeF rfl,
    decode_word, exec_of_writeF rfl,
    decode_word, exec_of_writeFlag rfl⟩

/-! ## Predicates and the negation (R475, R478, R482, R492 to R494) -/

theorem fpMul_sq_eq_mod (y z : Nat) : fpMul (fpMul y y) z = y ^ 2 * z % Config.p := by
  rw [fpMul, fpMul, mulMod, mulMod, Nat.mod_mul_mod, sq]

/-- The right side of the curve test is the residue of `X³ + 4·Z³`. -/
theorem curve_rhs_eq_mod (x z : Nat) : fpAdd (fpMul (fpMul x x) x) (fpMul (fpMul (fpMul Config.b z) z) z) =
    (x ^ 3 + 4 * z ^ 3) % Config.p := by
  refine eq_of_cast_eq (fpAdd_lt _ _) (Nat.mod_lt _ p_pos) ?_
  simp only [cast_fpAdd, cast_fpMul, Config.b, ZMod.natCast_mod]
  push_cast
  ring

theorem projOnCurve_eq_mod (P : Proj) : projOnCurve P =
    (decide (P.Z = 0) || decide (P.Y ^ 2 * P.Z % Config.p = (P.X ^ 3 + 4 * P.Z ^ 3) % Config.p)) := by
  rw [projOnCurve, fpMul_sq_eq_mod, curve_rhs_eq_mod]

theorem projNeg_eq_residue (P : Proj) : projNeg P = ⟨P.X, residue Config.p ((Config.p : Int) - P.Y), P.Z⟩ := by
  rw [projNeg, fpNeg, negMod_eq_residue p_pos]

/-- Settles O52: the effects as the rules write them, with the modular operations as residues. -/
theorem ppPredicatesAndNegation : Obligations.PpPredicatesAndNegation := fun _ _ _ _ =>
  ⟨decode_word, exec_of_writeFlag (congrArg _ (projOnCurve_eq_mod _)),
    decode_word, exec_of_writeFlag rfl,
    decode_word, exec_of_writeP (congrArg _ (projNeg_eq_residue _))⟩

/-! ## The range `PP.BATCHNORM` writes (R501) -/

theorem batchCountOk_iff {d a n : Nat} : batchCountOk d a n = true ↔ 1 ≤ n ∧ d + n ≤ 8 ∧ a + n ≤ 8 := by
  simp [batchCountOk, and_assoc]

/-- The decoder makes the check of the count that the command makes (30_encoding.md R175). -/
theorem batchCountOk_of_decode {d : AReg} {a : PReg} {n : Count} {i : Instr} (h : decode (word 0x92 d a 0 n) = .ok i) :
    batchCountOk d a n = true := by
  rw [word_eq_encode (i := .ppBatchnorm d a n), decode, encode, fieldsOf_pack] at h
  change formatDAN (Instr.ppBatchnorm d a n).fields .ppBatchnorm = _ at h
  obtain ⟨-, _, -, _, -, _, -, hcount, -⟩ := formatDAN_eq_ok_iff.1 h
  simpa only [Instr.fields, toNat_field4_fin16, toNat_field4_fin8] using hcount

theorem getElem_putRange (v : Vector Affine 8) (d : Nat) (xs : List Affine) (x : Affine) (i : AReg) :
    (putRange v d xs)[i] = if d ≤ i.val ∧ i.val < d + xs.length then xs.getD (i.val - d) x else v[i] := by
  induction xs generalizing v d with
  | nil => rw [putRange, if_neg (by simp)]
  | cons y ys ih =>
    rw [putRange, ih, List.length_cons]
    rcases lt_trichotomy d i.val with h | h | h
    · have hsub : i.val - d = i.val - (d + 1) + 1 := by omega
      have hset : (v.setIfInBounds d y)[i] = v[i] := Vector.getElem_setIfInBounds_ne _ h.ne
      rw [hsub, List.getD_cons_succ, hset]
      exact if_congr (by omega) rfl rfl
    · have hset : (v.setIfInBounds d y)[i] = y := by simp [h]
      rw [if_neg (by omega), if_pos (by omega), hset, ← h, Nat.sub_self, List.getD_cons_zero]
    · rw [if_neg (by omega), if_neg (by omega)]
      exact Vector.getElem_setIfInBounds_ne _ h.ne'

theorem exec_ppBatchnorm {d : AReg} {a : PReg} {n : Count} (h : batchCountOk d a n = true) (s : State) :
    exec (.ppBatchnorm d a n) s = .next (finished s { s.files with A := putRange s.files.A d ((List.range n).map fun i =>
      toAffine (s.operands.P.toList.getD (a + i) ⟨0, 1, 0⟩)) } s.FLAG) := by
  obtain ⟨-, -, ha⟩ := batchCountOk_iff.1 h
  rw [exec_eq, effect, if_pos h, take_drop_eq_map (by simpa using ha) ⟨0, 1, 0⟩, List.map_map]
  rfl

/-! ## Montgomery's trick (R501) -/

/-- A walk that comes in with a nonzero product hands its inverse back, and gives each point on the way its `ToAffine`. -/
theorem batchWalk_eq {Ps : List Proj} (h : ∀ P ∈ Ps, P.Z < Config.p) {acc : Nat} (hacc : (acc : ZMod Config.p) ≠ 0) :
    (batchWalk Ps acc).1 = Ps.map toAffine ∧ ((batchWalk Ps acc).2 : ZMod Config.p) = (acc : ZMod Config.p)⁻¹ := by
  have := fact_p
  induction Ps generalizing acc with
  | nil =>
    rw [batchWalk]
    refine ⟨rfl, ?_⟩
    rw [cast_fpInv]
  | cons P Ps ih =>
    obtain ⟨hP, hPs⟩ := List.forall_mem_cons.1 h
    rw [batchWalk, List.map_cons]
    by_cases h0 : P.Z = 0
    · obtain ⟨hpts, hinv⟩ := ih hPs hacc
      rw [if_pos h0, toAffine_of_Z_eq_zero h0]
      exact ⟨congrArg _ hpts, hinv⟩
    · have hZ := cast_ne_zero_of_lt h0 hP
      obtain ⟨hpts, hinv⟩ := ih hPs (acc := fpMul acc P.Z) (by rw [cast_fpMul]; exact mul_ne_zero hacc hZ)
      rw [cast_fpMul, mul_inv] at hinv
      have hzi : fpMul (batchWalk Ps (fpMul acc P.Z)).2 acc = fpInv P.Z := by
        refine eq_of_cast_eq (fpMul_lt _ _) (fpInv_lt _) ?_
        rw [cast_fpMul, hinv, cast_fpInv, mul_right_comm, inv_mul_cancel₀ hacc, one_mul]
      rw [if_neg h0, toAffine_of_Z_ne_zero h0]
      refine ⟨?_, ?_⟩
      · simp only [hzi, hpts]
      · simp only [cast_fpMul, hinv, inv_mul_cancel_right₀ hZ]

theorem batchNormalize_eq_map {Ps : List Proj} (h : ∀ P ∈ Ps, P.Z < Config.p) : batchNormalize Ps = Ps.map toAffine := by
  have := fact_p
  exact (batchWalk_eq h (acc := 1) (by simp)).1

/-- Settles O55: the range by index, the decoder's check of the count, and the walk's inverses. -/
theorem batchNormalizationIsPointwise : Obligations.BatchNormalizationIsPointwise := by
  refine ⟨fun s d a n => ⟨fun hn hd ha => ?_, fun hbad => ?_⟩, fun Ps h => batchNormalize_eq_map fun P hP => ?_⟩
  · have hok : batchCountOk d a n = true := batchCountOk_iff.2 ⟨hn, hd, ha⟩
    refine ⟨decode_word hok, _, exec_ppBatchnorm hok s, fun i => ?_⟩
    rw [getElem_putRange _ _ _ Affine.identity, List.length_map, List.length_range]
    split
    case isTrue hi =>
      have hlt : i.val - d.val < n.val := by omega
      rw [List.getD_eq_getElem _ _ (by simpa using hlt), List.getElem_map, List.getElem_range]
    case isFalse => rfl
  · exact runWord_of_illegal (fun i hi => hbad (batchCountOk_iff.1 (batchCountOk_of_decode hi))) s
  · obtain ⟨-, -, hZ⟩ := h P hP
    exact hZ

end Sys2Proof.Machine
end

section
/-! `NOP` (45_system.md R540): the one command whose effect is to keep the state, and the one word that spells it. -/

namespace Sys2Proof.Machine

open Spec

theorem exec_of_keep {i : Instr} {s : State} (h : effect s.operands i = .keep) : exec i s = .next (finished s s.files s.FLAG) := by
  rw [exec_eq, h]; rfl

theorem encode_nop : encode .nop = 0 := by decide

theorem decode_eq_nop_iff {w : Word} : decode w = .ok .nop ↔ w = 0 := by
  have hwf : Instr.nop.wellFormed = true := rfl
  rw [decode_eq_ok_iff, encode_nop, and_iff_left hwf, eq_comm]

theorem runWord_of_reservedByte {w : Word} (h : w.extractLsb' 0 8 ≠ 0) (s : State) : runWord w s = .next (failed s 4) :=
  runWord_of_illegal (isIllegal_iff.1 (malformedWordsAreIllegal.1 w h)) s

/-- Settles O27: `NOP` decodes from its own encoding alone and keeps the state; 0x00000001 has a nonzero reserved byte (R177). -/
theorem nopOnlyClearsErr : Obligations.NopOnlyClearsErr :=
  ⟨decode_eq_nop_iff.2 rfl, fun _ => decode_eq_nop_iff.1, runWord_of_reservedByte (by decide), fun _ => exec_of_keep rfl⟩

end Sys2Proof.Machine
end

section
/-! What a step is (60_exceptions.md R571, R577, 70_reset_and_hazards.md R631): by the head of the turns and the accepted word, from
Laws/Step.lean; no outcome of it is anything but a next state. -/

namespace Sys2Proof.Machine

open Spec

/-! ## The accepted word -/

theorem runWord_of_error {w : Word} {e : IllegalReason} (h : decode w = .error e) (s : State) : runWord w s = .next (failed s 4) :=
  runWord_of_illegal (by simp [h]) s

/-- A word placed by `withCommand` runs in the next step, on the state in which it has just been accepted. -/
theorem step_withCommand (s : State) (w : Word) : step (s.withCommand w) = runWord w (s.capture w) := by
  have hcore : coreTurn (s.capture w) = runWord w (s.capture w) := coreTurn_pending _ ⟨w, s.files⟩ rfl
  rw [← hcore]
  cases hts : s.turns with
  | nil =>
    have hplaced : s.withCommand w = s.capture w := by rw [State.withCommand, hts, coreFirst, ← hts]; rfl
    rw [hplaced, step_nil (s.capture w) hts]
  | cons x rest =>
    have hplaced : s.withCommand w = { s.capture w with turns := .core :: s.turns } := by rw [State.withCommand, hts, coreFirst]
    rw [hplaced, step_core _ s.turns rfl]
    rfl

/-! ## Every step -/

/-- Settles O7: the core's turn completes the word that PENDING holds, and `withFetchWord` leaves the core to move. -/
theorem stepRunsTheAcceptedCommand : Obligations.StepRunsTheAcceptedCommand := by
  refine ⟨fun s q i hts hq hi => ?_, fun s q i rest hts hq hi => ?_, fun s q e rest hts hq he => ?_, fun s q e hts hq he => ?_,
    fun s rest hts hq => ?_, fun s hts hq => ?_, step_host, step_powerOnReset, fun s n w i hi => ?_, fun s n w e he => ?_⟩
  · rw [step_nil s hts, coreTurn_pending s q hq, runWord_of_decode hi]
  · rw [step_core s rest hts, coreTurn_pending { s with turns := rest } q hq, runWord_of_decode hi]
  · rw [step_core s rest hts, coreTurn_pending { s with turns := rest } q hq, runWord_of_error he]
  · rw [step_nil s hts, coreTurn_pending s q hq, runWord_of_error he]
  · rw [step_core s rest hts, coreTurn_idle { s with turns := rest } hq]
  · rw [step_nil s hts, coreTurn_idle s hq]
  · exact (step_withCommand s _).trans (runWord_of_decode hi _)
  · exact (step_withCommand s _).trans (runWord_of_error he _)

/-- The core's turn answers a next state, with a command in flight and without one. -/
theorem exists_coreTurn_eq_next (s : State) : ∃ t, coreTurn s = .next t := by
  cases hq : s.PENDING with
  | none => exact ⟨_, coreTurn_idle s hq⟩
  | some q => exact ⟨_, (coreTurn_pending s q hq).trans (runWord_eq q.word s)⟩

/-- Settles O12, by the turn that the step takes: every accepted word completes, and the other turns answer a state outright. -/
theorem theMachineNeverStops : Obligations.TheMachineNeverStops := by
  intro s
  match hts : s.turns with
  | [] => rw [step_nil s hts]; exact exists_coreTurn_eq_next s
  | .core :: rest => rw [step_core s rest hts]; exact exists_coreTurn_eq_next _
  | .host a :: rest => exact ⟨_, step_host s a rest hts⟩
  | .powerOnReset :: rest => exact ⟨_, step_powerOnReset s rest hts⟩

end Sys2Proof.Machine
end

section
/-! What a command depends on and where it writes (60_exceptions.md R571, R573, R576): its effect is fixed by the locations of `sources`,
and goes to the locations of `dests`. -/

namespace Sys2Proof.Machine

open Spec

/-! ## Equal operands (10_state.md R72) -/

section
variable {fs fs' : Files}

theorem sameAt_F {a : FReg} : SameAt fs fs' (.reg .F a) ↔ fs.F[a] = fs'.F[a] := by simp [SameAt]

theorem sameAt_E {a : EReg} : SameAt fs fs' (.reg .E a) ↔ fs.E[a] = fs'.E[a] := by simp [SameAt]

theorem sameAt_S {a : SReg} : SameAt fs fs' (.reg .S a) ↔ fs.S[a] = fs'.S[a] := by simp [SameAt]

theorem sameAt_A {a : AReg} : SameAt fs fs' (.reg .A a) ↔ fs.A[a] = fs'.A[a] := by simp [SameAt]

theorem sameAt_P {a : PReg} : SameAt fs fs' (.reg .P a) ↔ fs.P[a] = fs'.P[a] := by simp [SameAt]

theorem forall_mem_registers {f : RegFile} {a n : Nat} {P : Location → Prop} :
    (∀ x ∈ registers f a n, P x) ↔ ∀ k < n, P (.reg f (a + k)) := by
  simp [registers]

theorem byte_mem_leadingBytes {k n : Nat} : .byte k ∈ leadingBytes n ↔ k < n := by simp [leadingBytes]

/-- Two lists that agree at the indices of a range have the same sublist there. -/
theorem take_drop_congr {α : Type} {l l' : List α} {a n : Nat} (h : ∀ k < n, l[a + k]? = l'[a + k]?) :
    (l.drop a).take n = (l'.drop a).take n := by
  refine List.ext_getElem? fun k => ?_
  rw [List.getElem?_take, List.getElem?_take]
  split
  case isTrue hk => rw [List.getElem?_drop, List.getElem?_drop, h k hk]
  case isFalse => rfl

theorem rangeF_congr {a n : Nat} (h : ∀ x ∈ registers .F a n, SameAt fs fs' x) :
    (fs.F.toList.drop a).take n = (fs'.F.toList.drop a).take n :=
  take_drop_congr (by simpa [SameAt] using forall_mem_registers.1 h)

theorem rangeP_congr {a n : Nat} (h : ∀ x ∈ registers .P a n, SameAt fs fs' x) :
    (fs.P.toList.drop a).take n = (fs'.P.toList.drop a).take n :=
  take_drop_congr (by simpa [SameAt] using forall_mem_registers.1 h)

theorem bufRead_congr {n : Nat} (h : ∀ x ∈ leadingBytes n, SameAt fs fs' x) : bufRead fs.BUF 0 n = bufRead fs'.BUF 0 n := by
  refine List.ext_getElem (by simp) fun k hk hk' => ?_
  rw [length_bufRead] at hk
  rw [← List.getD_eq_getElem _ 0, ← List.getD_eq_getElem _ 0, getD_bufRead hk, getD_bufRead hk]
  simpa [SameAt] using h (.byte k) (byte_mem_leadingBytes.2 hk)

end

/-- The effect of a command is fixed by the operands it names. -/
theorem effect_congr {i : Instr} {fs fs' : Files} (h : ∀ x ∈ sources i, SameAt fs fs' x) : effect fs i = effect fs' i := by
  cases i with
  | nop | fpZero | fpOne | fp2Zero | fp2One | scZero | scOne | paIdentity | paGen | ppIdentity | ppGen => rfl
  | fpFrombytes | scFrombytes | scFromwide | paFromcomp | paFromcompu | paFromuncomp | paFromuncompu =>
    simp only [effect, bufRead_congr h]
  | fpSop d a b n =>
    obtain ⟨ha, hb⟩ := List.forall_mem_append.1 h
    rw [effect, effect, rangeF_congr ha, rangeF_congr hb]
  | ppBatchnorm d a n => rw [effect, effect, rangeP_congr h]
  | _ =>
    simp only [sources, List.forall_mem_cons, sameAt_F, sameAt_E, sameAt_S, sameAt_A, sameAt_P] at h
    simp only [effect, h]

/-! ## The places an effect writes (10_state.md R60) -/

/-- The registers and BUF bytes an effect writes. -/
def Effect.places : Effect → List Location
  | writeF d _ => [.reg .F d]
  | writeE d _ => [.reg .E d]
  | writeS d _ => [.reg .S d]
  | writeA d _ => [.reg .A d]
  | writeP d _ => [.reg .P d]
  | writeBuf bs => leadingBytes bs.length
  | writeRangeA d xs => registers .A d xs.length
  | keep | writeFlag _ | fail _ => []

/-- An effect that does not fail writes the given places. -/
def Effect.Writes (ls : List Location) (e : Effect) : Prop := e.code = none → e.places = ls

theorem Effect.writes_fail (ls : List Location) (k : ErrorKind) : (Effect.fail k).Writes ls := nofun

/-- A command that does not fail writes the places it names. -/
theorem writes_dests (i : Instr) (fs : Files) : (effect fs i).Writes (dests i) := by
  cases i with
  | fpInv | fpFrombytes | scInv | scFrombytes =>
    simp only [effect]
    split
    · exact Effect.writes_fail _ _
    · exact fun _ => rfl
  | fpSqrt | fp2Inv | fp2Sqrt | scSqrt | paFromcomp | paFromcompu | paFromuncomp | paFromuncompu =>
    simp only [effect]
    exact Effect.orFail_of (P := Effect.Writes _) (Effect.writes_fail _ _) fun _ _ _ => rfl
  | fpSop d a b n =>
    rw [effect]
    split
    · exact fun _ => rfl
    · exact Effect.writes_fail _ _
  | ppBatchnorm d a n =>
    rw [effect]
    split
    case isTrue hcount =>
      obtain ⟨-, -, ha⟩ := batchCountOk_iff.1 hcount
      have hlen : n.val ≤ 8 - a.val := by omega
      exact fun _ => by simp [Effect.places, dests, hlen]
    case isFalse => exact Effect.writes_fail _ _
  | fpTobytes | scTobytes | paTocomp | paTouncomp => exact fun _ => by simp [effect, Effect.places, dests]
  | _ => exact fun _ => rfl

/-- A write to a register keeps the registers at other places. -/
theorem getElem?_set_of_notMem {α : Type} {m d n : Nat} {f : RegFile} {v : Vector α m} {y : α} (hd : d < m)
    (hx : Location.reg f n ∉ [Location.reg f d]) : (v.set d y hd)[n]? = v[n]? :=
  Vector.getElem?_set_ne hd fun h => hx (List.mem_singleton.2 (congrArg _ h.symm))

/-- A register of the A file after a range is written, any index past the end included. -/
theorem getElem?_putRange (v : Vector Affine 8) (d : Nat) (xs : List Affine) (n : Nat) :
    (putRange v d xs)[n]? = if d ≤ n ∧ n < d + xs.length ∧ n < 8 then some (xs.getD (n - d) Affine.identity) else v[n]? := by
  rcases lt_or_ge n 8 with hn | hn
  · have h := getElem_putRange v d xs Affine.identity ⟨n, hn⟩
    rw [Vector.getElem?_eq_getElem hn, Vector.getElem?_eq_getElem hn]
    simp only [hn, and_true]
    rw [← apply_ite some]
    exact congrArg some h
  · rw [if_neg (by omega), Vector.getElem?_eq_none hn, Vector.getElem?_eq_none hn]

namespace Effect

variable {e : Effect} {x : Location}

/-- An effect keeps every place it does not write. -/
theorem sameAt_files_of_notMem_places (hx : x ∉ e.places) (fs : Files) : SameAt (e.files fs) fs x := by
  match x with
  | .reg .F n => cases e with
    | writeF d v => exact getElem?_set_of_notMem d.isLt hx
    | _ => rfl
  | .reg .E n => cases e with
    | writeE d v => exact getElem?_set_of_notMem d.isLt hx
    | _ => rfl
  | .reg .S n => cases e with
    | writeS d v => exact getElem?_set_of_notMem d.isLt hx
    | _ => rfl
  | .reg .P n => cases e with
    | writeP d v => exact getElem?_set_of_notMem d.isLt hx
    | _ => rfl
  | .reg .A n => cases e with
    | writeA d v => exact getElem?_set_of_notMem d.isLt hx
    | writeRangeA d xs =>
      refine (getElem?_putRange _ _ _ _).trans (if_neg fun ⟨hd, hn, _⟩ => hx ?_)
      exact List.mem_map.2 ⟨n - d, List.mem_range.2 (by omega), by rw [Nat.add_sub_cancel' hd]⟩
    | _ => rfl
  | .byte k => cases e with
    | writeBuf bs =>
      have hk : bs.length ≤ k := not_lt.1 (mt byte_mem_leadingBytes.2 hx)
      exact bufByte_bufWrite_above (by omega)
    | _ => rfl

/-- What an effect writes at its places does not depend on the files before it. -/
theorem sameAt_files_of_mem_places {op : Nat} (h : e.allowedAt op = true) (hx : x ∈ e.places) {fs fs' : Files}
    (hfs : Memory.wf fs.BUF = true) (hfs' : Memory.wf fs'.BUF = true) : SameAt (e.files fs) (e.files fs') x := by
  cases e with
  | keep | writeFlag | fail => cases hx
  | writeF | writeE | writeS | writeA | writeP =>
    obtain rfl := List.mem_singleton.1 hx
    simp [SameAt, files]
  | writeBuf bs =>
    obtain ⟨k, hk, rfl⟩ := List.mem_map.1 hx
    rw [List.mem_range] at hk
    have hbs : bs.length ≤ bufSize := by
      simp only [allowedAt, decide_eq_true_eq] at h
      simp only [bufSize]
      omega
    have hbyte {m : Memory} (hm : Memory.wf m = true) : bufByte (bufWrite m 0 bs) k = bs.getD k 0 := by
      rw [bufByte_bufWrite hm (by omega), if_pos (by omega), Nat.sub_zero]
    exact (hbyte hfs).trans (hbyte hfs').symm
  | writeRangeA d xs =>
    obtain ⟨k, hk, rfl⟩ := List.mem_map.1 hx
    rw [List.mem_range] at hk
    simp only [SameAt, files, getElem?_putRange]
    split
    case isTrue => rfl
    case isFalse hk8 => rw [Vector.getElem?_eq_none (by omega), Vector.getElem?_eq_none (by omega)]

/-- An effect that writes a place does not fail. -/
theorem code_eq_none_of_mem_places (hx : x ∈ e.places) : e.code = none := by
  cases e with
  | fail k => cases hx
  | _ => rfl

end Effect

/-- The result code is 0 exactly where nothing failed (10_state.md R64). -/
theorem errAfter_eq_zero_iff {code : Option ErrorKind} : errAfter code = 0 ↔ code = none := by
  cases code with
  | none => exact iff_of_true rfl rfl
  | some k => exact iff_of_false k.code_ne_zero nofun

/-- STICKY after a completion, by the result code (10_state.md R67). -/
theorem Effect.apply_STICKY_of_ERR (e : Effect) (s : State) : (e.apply s).STICKY =
    if (e.apply s).ERR = 0 then s.STICKY else s.STICKY ||| (1#5 <<< ((e.apply s).ERR.toNat - 1)) := by
  rw [apply_STICKY, apply_ERR]
  cases e.code with
  | none => rfl
  | some k =>
    have hsticky := congrArg (s.STICKY ||| ·) k.stickyBit_eq
    exact hsticky.trans (if_neg k.code_ne_zero).symm

/-- Settles O14: equal operands give one effect, which writes the named places alone, and there the same whatever stood before. -/
theorem effectDependsOnOperandsAlone : Obligations.EffectDependsOnOperandsAlone := by
  intro i s s' hs hs' hsame
  have hwrites := writes_dests i s.operands
  have hallowed := allowedAt_effect s.operands i
  have hexec' := exec_eq i s'
  rw [← effect_congr hsame] at hexec'
  refine ⟨_, _, exec_eq i s, hexec', rfl, fun herr => ⟨fun x hx => ?_, fun hpred => ?_⟩, fun x hx => ?_, fun hflag => ?_, ?_⟩
  · rw [← hwrites (errAfter_eq_zero_iff.1 herr)] at hx
    exact Effect.sameAt_files_of_mem_places hallowed hx hs hs'
  · obtain ⟨v, hv⟩ := effect_of_isPredicate hpred s.operands
    rw [hv]
    rfl
  · refine Effect.sameAt_files_of_notMem_places (fun hmem => ?_) s.files
    have hcode := Effect.code_eq_none_of_mem_places hmem
    rcases hx with hdest | herr
    · exact hdest (hwrites hcode ▸ hmem)
    · exact herr (errAfter_eq_zero_iff.2 hcode)
  · rcases hflag with hpred | herr
    · exact flag_effect_of_not_isPredicate hpred _ _
    · exact (Effect.files_flag_of_code (mt errAfter_eq_zero_iff.2 herr) s.files _).2
  · rw [← Effect.apply_STICKY_of_ERR]
    rfl

end Sys2Proof.Machine
end
